-- ==== Sys2Proof/Word.lean ====
section
/-! DEFINITION. The word and the two one-bit alphabets of the DHT11 protocol engine
(00_scope.md section 4; 10_state.md rules R20, R21). -/

namespace Sys2Proof

/-- A byte: `b[7]` is its most significant bit (00_scope.md section 4, Bits). -/
abbrev Byte := BitVec 8

/-- A level of the line or of the latch: 0 = low, 1 = high (10_state.md R21). -/
inductive Level
  | low
  | high
  deriving DecidableEq, Repr, Inhabited

/-- The pin's direction: 0 = Output, 1 = Input (10_state.md R20). -/
inductive Mode
  | output
  | input
  deriving DecidableEq, Repr, Inhabited

end Sys2Proof
end

