-- ==== Sys2Proof/Config.lean ====
section
/-! DEFINITION. What one implementation fixes (00_scope.md R8), the steps the agents can take
(20_memory.md R66), and the free values the spec leaves open. -/

namespace Sys2Proof

/-- The one configuration record of the engine, with the defaults of the table of 00_scope.md R8.
Every timing field counts timer ticks. Each field is a parameter: State holds the record, so a
statement about every state holds for every configuration (notes/assumptions/1.md). -/
structure Config where
  /-- `TIMER_BITS` (W): width of TCOUNT. -/
  timerBits : Nat := 16
  /-- The numerator of `TICK_US` (`Config.tickUs`). -/
  tickUsNum : Nat := 1
  /-- The denominator of `TICK_US` (`Config.tickUs`). -/
  tickUsDen : Nat := 1
  /-- `T_START_LOW`: start-signal low hold. -/
  tStartLow : Nat := 25000
  /-- `T_START_HIGH`: start-signal high hold. -/
  tStartHigh : Nat := 30
  /-- `T_RESP`: response-phase timeout bound. -/
  tResp : Nat := 100
  /-- `T_BIT`: per-bit phase timeout bound. -/
  tBit : Nat := 100
  /-- `T_THRESH`: bit-discrimination threshold. -/
  tThresh : Nat := 50
  /-- `MIN_IDLE_US`: the inter-read idle period, a duty of the host; "the engine does not read it".
  A whole number of µs, DESIGN CHOICE (notes/assumptions/16.md). -/
  minIdleUs : Nat := 1000000
  deriving DecidableEq, Repr

/-- `TICK_US`: duration of one tick in µs; the engine itself never converts units (R10). R9 asks only
TICK_US > 0, so a tick may be finer than 1 µs: a fraction of two natural numbers, DESIGN CHOICE
(notes/assumptions/16.md). -/
def Config.tickUs (c : Config) : ℚ := c.tickUsNum / c.tickUsDen

/-- One step of one agent (20_memory.md R66), or a reset from outside (70_reset_and_hazards.md R340).
The command word of a host step is raw: any of the 256 words may arrive on the port. -/
inductive Event
  /-- The host issues one command word (44_host.md R240). -/
  | host (cmd : Byte)
  /-- The engine takes one step of the state machine (41_handshake.md R160). -/
  | engine
  /-- The clock ticks once (40_line.md R127). -/
  | clock
  /-- The sensor sets the level that the next sample in Input mode draws (40_line.md R129). -/
  | sensor (level : Level)
  /-- The block is reset (70_reset_and_hazards.md R340). -/
  | reset
  deriving DecidableEq, Repr, Inhabited

/-- FREE VALUE (40_line.md R129): the level that a sample in Input mode draws where no sensor step
has set one, applied to State's counter of draws. "a free draw in {0, 1}", "under no law". -/
opaque Config.freeLevel : Nat → Level

/-- FREE VALUE (20_memory.md R66): which agent steps next where State's schedule lists none, applied
to State's counter of draws. "in an order the schedule leaves free". -/
opaque Config.freeEvent : Nat → Event

end Sys2Proof
end

