-- ==== Sys2Proof/Syntax.lean ====
section
/-! DEFINITION. The ten commands of the host port, one constructor for each row of
spec/opcode_table.json (30_encoding.md R92, R93). -/

namespace Sys2Proof

/-- A command. Operands are already assembled (30_encoding.md R93), so every term is a command the
encoding admits. -/
inductive Instr
  /-- SETMODE m: the new MODE (40_line.md R121). -/
  | setmode (m : Mode)
  /-- WRITE v: the new LATCH level (40_line.md R122). -/
  | write (v : Level)
  /-- READ (40_line.md R123). -/
  | read
  /-- RSTTMR (40_line.md R124). -/
  | rsttmr
  /-- ELAPSED (40_line.md R125). -/
  | elapsed
  /-- TMRCTL s: the new TRUN, false = stop, true = run (40_line.md R126). -/
  | tmrctl (s : Bool)
  /-- START (41_handshake.md R161). -/
  | start
  /-- RDSTAT (44_host.md R241). -/
  | rdstat
  /-- RDBYTE k: the index into the result window, 0..3 (44_host.md R242). -/
  | rdbyte (k : BitVec 2)
  /-- RDFAULT (44_host.md R243). -/
  | rdfault
  deriving DecidableEq, Repr

end Sys2Proof
end

