-- ==== Sys2Proof/WellFormed.lean ====
section
/-! DEFINITION. Well-formed configurations (00_scope.md R9) and well-formed command words
(30_encoding.md R90, R93, R94). A term of `Instr` needs no check of its own: each operand's type has
exactly the values of its field. -/

namespace Sys2Proof

/-- WF1: T_START_LOW * TICK_US >= 18000, "minimum per sensor spec: 18 ms", both sides times the
denominator of TICK_US. -/
def Config.wf1 (c : Config) : Bool := decide (18000 * c.tickUsDen ≤ c.tStartLow * c.tickUsNum)

/-- WF2: 20 <= T_START_HIGH * TICK_US <= 40, "hold ~20–40 µs", all sides times the denominator. -/
def Config.wf2 (c : Config) : Bool :=
  decide (20 * c.tickUsDen ≤ c.tStartHigh * c.tickUsNum) &&
    decide (c.tStartHigh * c.tickUsNum ≤ 40 * c.tickUsDen)

/-- WF3: T_THRESH < T_BIT. -/
def Config.wf3 (c : Config) : Bool := decide (c.tThresh < c.tBit)

/-- WF4: a "> bound" test is reachable below saturation. -/
def Config.wf4 (c : Config) : Bool := decide (max c.tResp c.tBit < 2 ^ c.timerBits - 1)

/-- WF5: a ">= hold" test is reachable. -/
def Config.wf5 (c : Config) : Bool := decide (max c.tStartLow c.tStartHigh ≤ 2 ^ c.timerBits - 1)

/-- WF6: TICK_US > 0 and W >= 1; that every T_* is a natural number is the type of the field. -/
def Config.wf6 (c : Config) : Bool :=
  decide (0 < c.tickUsNum) && decide (0 < c.tickUsDen) && decide (1 ≤ c.timerBits)

/-- "A configuration is well formed when all of the following hold" (00_scope.md R9). -/
def Config.wf (c : Config) : Bool := c.wf1 && c.wf2 && c.wf3 && c.wf4 && c.wf5 && c.wf6

/-- The `op` field, bits 7:4 (30_encoding.md R90). -/
def opField (w : Byte) : BitVec 4 := w.extractLsb' 4 4

/-- The operation is assigned: `op` is none of 0x0, 0x7, 0xC, 0xD, 0xE, 0xF (30_encoding.md R94). -/
def opAssigned (w : Byte) : Bool :=
  opField w ∉ [0x0#4, 0x7#4, 0xC#4, 0xD#4, 0xE#4, 0xF#4]

/-- The reserved operand bits of the word's operation (30_encoding.md R93): cmd[3:1] of SETMODE,
WRITE and TMRCTL, cmd[3:2] of RDBYTE, cmd[3:0] of every other command. -/
def reservedBits (w : Byte) : BitVec 4 :=
  match (opField w).toNat with
  | 0x1 | 0x2 | 0x6 => 0xE#4
  | 0xA => 0xC#4
  | _ => 0xF#4

/-- "All of them must be 0" (30_encoding.md R93). -/
def reservedZero (w : Byte) : Bool := w.extractLsb' 0 4 &&& reservedBits w = 0#4

/-- A well-formed command word: an assigned operation with its reserved bits 0. -/
def wordWf (w : Byte) : Bool := opAssigned w && reservedZero w

end Sys2Proof
end

