-- ==== Sys2Proof/Decode.lean ====
section
/-! DEFINITION. The decoder of the command port and its encoder, both written from the opcode map of
30_encoding.md R92 and the operand assembly of R93. -/

namespace Sys2Proof

/-- Why a word is no command (30_encoding.md R94). Both raise the one fault IllegalCommand. -/
inductive Reject
  /-- `op` is one of the six unassigned operations. -/
  | unassignedOp
  /-- `op` is assigned and a reserved operand bit is 1. -/
  | reservedBitSet
  deriving DecidableEq, Repr

/-- m = cmd[0]: 0 Output, 1 Input. -/
def modeOfBit (b : Bool) : Mode := if b then .input else .output

/-- The bit that encodes a mode (10_state.md R20). -/
def modeBit : Mode → Bool
  | .output => false
  | .input => true

/-- v = cmd[0]: 0 low, 1 high. -/
def levelOfBit (b : Bool) : Level := if b then .high else .low

/-- The bit that encodes a level (10_state.md R21). -/
def levelBit : Level → Bool
  | .low => false
  | .high => true

/-- One row of the opcode map: "Each row is decoded by `(cmd & mask) == match`". -/
structure OpRow where
  mnemonic : String
  pat : Byte
  mask : Byte
  deriving DecidableEq, Repr

/-- The row matches the word. -/
def OpRow.hits (r : OpRow) (w : Byte) : Bool := w &&& r.mask = r.pat

/-- The row of the opcode map that a command belongs to (30_encoding.md R92). -/
def Instr.row : Instr → OpRow
  | .setmode _ => ⟨"SETMODE", 0x10#8, 0xFE#8⟩
  | .write _ => ⟨"WRITE", 0x20#8, 0xFE#8⟩
  | .read => ⟨"READ", 0x30#8, 0xFF#8⟩
  | .rsttmr => ⟨"RSTTMR", 0x40#8, 0xFF#8⟩
  | .elapsed => ⟨"ELAPSED", 0x50#8, 0xFF#8⟩
  | .tmrctl _ => ⟨"TMRCTL", 0x60#8, 0xFE#8⟩
  | .start => ⟨"START", 0x80#8, 0xFF#8⟩
  | .rdstat => ⟨"RDSTAT", 0x90#8, 0xFF#8⟩
  | .rdbyte _ => ⟨"RDBYTE", 0xA0#8, 0xFC#8⟩
  | .rdfault => ⟨"RDFAULT", 0xB0#8, 0xFF#8⟩

/-- The opcode map, whose rows decode in any order because no two overlap
(Sys2Proof/Laws/Decode.lean). -/
def opcodeMap : List OpRow :=
  [Instr.row (.setmode .output), Instr.row (.write .low), Instr.row .read, Instr.row .rsttmr,
   Instr.row .elapsed, Instr.row (.tmrctl false), Instr.row .start, Instr.row .rdstat,
   Instr.row (.rdbyte 0), Instr.row .rdfault]

/-- Decode one command word. An unassigned operation is rejected before its operand bits are
looked at; both rejections are IllegalCommand at the port. -/
def decode (w : Byte) : Except Reject Instr :=
  if w &&& 0xFE#8 = 0x10#8 then .ok (.setmode (modeOfBit (w.getLsbD 0)))
  else if w &&& 0xFE#8 = 0x20#8 then .ok (.write (levelOfBit (w.getLsbD 0)))
  else if w = 0x30#8 then .ok .read
  else if w = 0x40#8 then .ok .rsttmr
  else if w = 0x50#8 then .ok .elapsed
  else if w &&& 0xFE#8 = 0x60#8 then .ok (.tmrctl (w.getLsbD 0))
  else if w = 0x80#8 then .ok .start
  else if w = 0x90#8 then .ok .rdstat
  else if w &&& 0xFC#8 = 0xA0#8 then .ok (.rdbyte (w.extractLsb' 0 2))
  else if w = 0xB0#8 then .ok .rdfault
  else if opAssigned w then .error .reservedBitSet
  else .error .unassignedOp

/-- The word of a command: its row's match with the operand in the low bits. -/
def encode : Instr → Byte
  | .setmode m => 0x10#8 ||| (BitVec.ofBool (modeBit m)).setWidth 8
  | .write v => 0x20#8 ||| (BitVec.ofBool (levelBit v)).setWidth 8
  | .read => 0x30#8
  | .rsttmr => 0x40#8
  | .elapsed => 0x50#8
  | .tmrctl s => 0x60#8 ||| (BitVec.ofBool s).setWidth 8
  | .start => 0x80#8
  | .rdstat => 0x90#8
  | .rdbyte k => 0xA0#8 ||| k.setWidth 8
  | .rdfault => 0xB0#8

/-- The command word that a table word of `nbits` bits stands for: the bits above `nbits` are 0, and
"Every command is one 8-bit word" (30_encoding.md R90, R99). -/
def tableCommand (nbits w : Nat) : Byte := BitVec.ofNat 8 (w % 2 ^ nbits)

/-- What the decoder reads from a table word. A table word longer than the one command length is no
command. -/
def decodeTableWord (nbits w : Nat) : Option Instr :=
  if nbits ≤ 8 then (decode (tableCommand nbits w)).toOption else none

/-- The assembly line of a command (30_encoding.md R97). -/
def Instr.asm : Instr → String
  | .setmode .output => "SETMODE OUT"
  | .setmode .input => "SETMODE IN"
  | .write .low => "WRITE 0"
  | .write .high => "WRITE 1"
  | .read => "READ"
  | .rsttmr => "RSTTMR"
  | .elapsed => "ELAPSED"
  | .tmrctl false => "TMRCTL STOP"
  | .tmrctl true => "TMRCTL RUN"
  | .start => "START"
  | .rdstat => "RDSTAT"
  | .rdbyte k => "RDBYTE " ++ toString k.toNat
  | .rdfault => "RDFAULT"

/-- The commands that touch the pin/timer pair and are checked for ownership (40_line.md R120). -/
def Instr.isLine : Instr → Bool
  | .setmode _ | .write _ | .read | .rsttmr | .elapsed | .tmrctl _ => true
  | .start | .rdstat | .rdbyte _ | .rdfault => false

end Sys2Proof
end

