-- ==== Sys2Proof/Machine/State.lean ====
section
/-! DEFINITION. Everything the spec gives the machine (10_state.md), as plain data, with the inputs of
the outside agents beside it (20_memory.md R66), and the state after reset (70_reset_and_hazards.md
R340). -/

namespace Sys2Proof.Machine

/-- STATE: "A model's state type has exactly the nine values of rule R25"
(93_implementation_defined.md I13). Its codes are `Phase.code` in Flags.lean. -/
inductive Phase
  | idle
  | startLow
  | startHigh
  | respLow
  | respHigh
  | bitLow
  | bitHigh
  | done
  | failed
  deriving DecidableEq, Repr

/-- ERRK, the error kind recorded in Failed; code 3 is never stored (10_state.md R28). -/
inductive Errk
  | none
  | noResponse
  | timeout
  deriving DecidableEq, Repr

/-- FCAUSE, the cause of the first contract fault (60_exceptions.md R305). -/
inductive FCause
  | none
  | illegalCommand
  | writeInInputMode
  | lineOwnedByDriver
  | startWhileBusy
  | noReading
  deriving DecidableEq, Repr

/-- B[0..4], the data buffer of the Reading (10_state.md R27). -/
structure Buffer where
  /-- B[0] -/
  humidityInt : Byte
  /-- B[1] -/
  humidityFrac : Byte
  /-- B[2] -/
  tempInt : Byte
  /-- B[3] -/
  tempFrac : Byte
  /-- B[4] -/
  checksum : Byte
  deriving DecidableEq, Repr

/-- B[0..4] all 0. -/
def Buffer.zero : Buffer := ⟨0, 0, 0, 0, 0⟩

/-- What a command returns in its own step (30_encoding.md R96). -/
inductive Response
  /-- READ: the 1-bit level. -/
  | level (l : Level)
  /-- ELAPSED: the W-bit count. -/
  | count (n : Nat)
  /-- RDSTAT: the 8-bit STATUS. -/
  | status (w : Byte)
  /-- RDBYTE: one 8-bit byte. -/
  | byte (b : Byte)
  /-- RDFAULT: the 3-bit FCAUSE. -/
  | cause (c : BitVec 3)
  deriving DecidableEq, Repr

/-- The three error kinds of a cycle (60_exceptions.md R300). -/
inductive ErrorKind
  | noResponse
  | timeout
  | checksumMismatch
  deriving DecidableEq, Repr

/-- The validated outcome of a cycle (43_validator.md R221). -/
inductive CycleResult
  | reading (humidityInt humidityFrac tempInt tempFrac : Byte)
  | error (kind : ErrorKind)
  | noResult
  deriving DecidableEq, Repr

/-- CLASS, a function of the state (10_state.md R30). -/
inductive StatusClass
  | idle
  | busy
  | ready
  | error
  deriving DecidableEq, Repr

/-- The whole machine. The first eleven fields after `cfg` are the registers of 10_state.md's summary
table (PIN is "not state: drawn"); the last four are the model's own and hold the port's answer and
the outside agents' inputs. -/
structure State where
  /-- The configuration record (00_scope.md R8); no step writes it. -/
  cfg : Config
  /-- MODE, 1 bit (R20). -/
  mode : Mode
  /-- LATCH, 1 bit (R21). -/
  latch : Level
  /-- TCOUNT, W bits, an unsigned number of ticks (R23). -/
  tcount : Nat
  /-- TRUN, 1 bit (R24). -/
  trun : Bool
  /-- STATE, 4 bits, the program counter's part (R25). -/
  phase : Phase
  /-- BITIDX, 6 bits (R26). -/
  bitidx : BitVec 6
  /-- B[0..4], 5 x 8 bits (R27). -/
  buf : Buffer
  /-- ERRK, 2 bits (R28). -/
  errk : Errk
  /-- FAULT, 1 bit, sticky (R29). -/
  fault : Bool
  /-- FCAUSE, 3 bits (R29). -/
  fcause : FCause
  /-- MODEL'S OWN: what the last host command returned; `none` where it returned nothing, "absent, not
  zero" (30_encoding.md R96). -/
  resp : Option Response
  /-- MODEL'S OWN: the level the sensor has set for the next sample in Input mode, if any
  (40_line.md R129). -/
  drive : Option Level
  /-- MODEL'S OWN: the agents' steps to come, first step first (20_memory.md R66). -/
  sched : List Event
  /-- MODEL'S OWN: how many free values have been drawn. -/
  free : Nat
  deriving DecidableEq, Repr

/-- The reasons the machine stops with a fault: none. "A fault does not stop the engine"
(60_exceptions.md R306): a contract fault is a next state with FAULT = 1. -/
inductive Fault
  deriving DecidableEq, Repr

/-- The reasons a step has no meaning. -/
inductive Refusal
  /-- A command that has no meaning yet, raised by exec's arm; safe. No arm raises it. -/
  | notModelled (mnemonic : String)
  /-- The configuration is not well formed, raised by `step`: "The model refuses a configuration that
  is not well formed: it has no run under such a configuration" (00_scope.md R9). Safe. -/
  | illFormedConfig
  deriving DecidableEq, Repr

/-- The three outcomes over this machine's types. -/
abbrev Result := Host.Outcome State Fault Refusal

/-- The machine right after reset (70_reset_and_hazards.md R340) under the default configuration, with
no agent's step scheduled. BITIDX and B are "unspecified (any value; unobservable)": 0 is the
model's DESIGN CHOICE (notes/assumptions/2.md). The last four fields are the model's own
(notes/assumptions/3.md). -/
def State.reset : State where
  cfg := {}
  mode := .input
  latch := .high
  tcount := 0
  trun := false
  phase := .idle
  bitidx := 0
  buf := Buffer.zero
  errk := .none
  fault := false
  fcause := .none
  resp := none
  drive := none
  sched := []
  free := 0

end Sys2Proof.Machine
end

