-- ==== Sys2Proof/Machine/Operands.lean ====
section
/-! DEFINITION. The sources that commands and engine steps read: the pin (40_line.md R128, R129), the
data buffer and its result window (20_memory.md R60, R61), and the width and value of a response
(30_encoding.md R96). -/

namespace Sys2Proof.Machine

/-- `Pin()`: in Output mode LATCH (40_line.md R128); in Input mode the level the sensor has set for
this sample, else a free draw (40_line.md R129). -/
def pin (s : State) : Level :=
  match s.mode with
  | .output => s.latch
  | .input =>
    match s.drive with
    | some l => l
    | none => Config.freeLevel s.free

/-- The state once the pin has been read: a sample in Input mode uses up its draw, so that the next
one is "a fresh draw" (40_line.md R123, R129). No register changes. -/
def afterPin (s : State) : State :=
  match s.mode with
  | .output => s
  | .input =>
    match s.drive with
    | some _ => { s with drive := none }
    | none => { s with free := s.free + 1 }

/-- B[k] (10_state.md R27). -/
def Buffer.get (B : Buffer) : Nat → Byte
  | 0 => B.humidityInt
  | 1 => B.humidityFrac
  | 2 => B.tempInt
  | 3 => B.tempFrac
  | 4 => B.checksum
  | _ => 0

/-- B with B[k] <- v. -/
def Buffer.set (B : Buffer) (k : Nat) (v : Byte) : Buffer :=
  match k with
  | 0 => { B with humidityInt := v }
  | 1 => { B with humidityFrac := v }
  | 2 => { B with tempInt := v }
  | 3 => { B with tempFrac := v }
  | 4 => { B with checksum := v }
  | _ => B

/-- Location k of the result window holds B[k], k = 0..3; "The checksum byte `B[4]` has no location"
(20_memory.md R60). -/
def window (B : Buffer) (k : BitVec 2) : Byte := B.get k.toNat

/-- Stream bit s is stored at byte index s div 8, bit index 7 - (s mod 8) (20_memory.md R61). -/
def Buffer.streamBit (B : Buffer) (s : Nat) : Bool := (B.get (s / 8)).getLsbD (7 - s % 8)

/-- `{B[0], B[1], B[2], B[3], B[4]}`, the frame as one number (20_memory.md R62). Nothing in the
engine forms it. -/
def Buffer.frame (B : Buffer) : BitVec 40 :=
  B.humidityInt ++ B.humidityFrac ++ B.tempInt ++ B.tempFrac ++ B.checksum

/-- x with bit j <- b. -/
def setBit (x : Byte) (j : Nat) (b : Bool) : Byte :=
  if b then x ||| (1#8 <<< j) else x &&& ~~~(1#8 <<< j)

/-- The bit of FAULT and TRUN as a field of a word. -/
def flagBit (b : Bool) : BitVec 1 := BitVec.ofBool b

/-- The code of FCAUSE (60_exceptions.md R305); 6 and 7 are "never raised". -/
def FCause.code : FCause → BitVec 3
  | .none => 0
  | .illegalCommand => 1
  | .writeInInputMode => 2
  | .lineOwnedByDriver => 3
  | .startWhileBusy => 4
  | .noReading => 5

/-- The response widths (30_encoding.md R96). -/
def Response.width (c : Config) : Response → Nat
  | .level _ => 1
  | .count _ => c.timerBits
  | .status _ => 8
  | .byte _ => 8
  | .cause _ => 3

/-- A response as an unsigned number. -/
def Response.value : Response → Nat
  | .level l => (levelBit l).toNat
  | .count n => n
  | .status w => w.toNat
  | .byte b => b.toNat
  | .cause c => c.toNat

end Sys2Proof.Machine
end

