-- ==== Sys2Proof/Machine/Validator.lean ====
section
/-! DEFINITION. The Reading Validator, "combinational: it has no state and takes no step"
(43_validator.md). -/

namespace Sys2Proof.Machine

/-- expected(B) = (B[0] + B[1] + B[2] + B[3]) mod 256 (43_validator.md R220). -/
def expectedChecksum (B : Buffer) : Byte :=
  B.humidityInt + B.humidityFrac + B.tempInt + B.tempFrac

/-- checksumOk(B) = (expected(B) = B[4]) (43_validator.md R220). -/
def checksumOk (B : Buffer) : Bool := expectedChecksum B = B.checksum

/-- The validated outcome, "a function of STATE, ERRK and B" (43_validator.md R221). -/
def cycleResult (s : State) : CycleResult :=
  match s.phase with
  | .done =>
    if checksumOk s.buf then
      .reading s.buf.humidityInt s.buf.humidityFrac s.buf.tempInt s.buf.tempFrac
    else .error .checksumMismatch
  | .failed =>
    match s.errk with
    | .noResponse => .error .noResponse
    | .timeout => .error .timeout
    | .none => .noResult
  | _ => .noResult

end Sys2Proof.Machine
end

