-- ==== Sys2Proof/Machine/Flags.lean ====
section
/-! DEFINITION. The flags and the status word, all computed and none stored (10_state.md R30 to R33),
with the codes of STATE, ERRK and CLASS. -/

namespace Sys2Proof.Machine

/-- The codes of STATE; "9-15 never held" (10_state.md R25). -/
def Phase.code : Phase → BitVec 4
  | .idle => 0
  | .startLow => 1
  | .startHigh => 2
  | .respLow => 3
  | .respHigh => 4
  | .bitLow => 5
  | .bitHigh => 6
  | .done => 7
  | .failed => 8

/-- The codes of ERRK (10_state.md R28). -/
def Errk.code : Errk → BitVec 2
  | .none => 0
  | .noResponse => 1
  | .timeout => 2

/-- The codes of CLASS (10_state.md R30). -/
def StatusClass.code : StatusClass → BitVec 2
  | .idle => 0
  | .busy => 1
  | .ready => 2
  | .error => 3

/-- `busy` is the predicate `STATE in {1, 2, 3, 4, 5, 6}` (10_state.md R33). -/
def busy (s : State) : Bool :=
  match s.phase with
  | .startLow | .startHigh | .respLow | .respHigh | .bitLow | .bitHigh => true
  | .idle | .done | .failed => false

/-- CLASS (10_state.md R30). -/
def statusClass (s : State) : StatusClass :=
  match s.phase with
  | .idle => .idle
  | .startLow | .startHigh | .respLow | .respHigh | .bitLow | .bitHigh => .busy
  | .done => if checksumOk s.buf then .ready else .error
  | .failed => .error

/-- ERR, "the error code the cycle reports" (10_state.md R31). -/
def errField (s : State) : BitVec 2 :=
  match s.phase with
  | .failed => s.errk.code
  | .done => if checksumOk s.buf then 0 else 3
  | _ => 0

/-- STATUS = {FAULT, MODE, LATCH, TRUN, CLASS, ERR} (10_state.md R32). -/
def statusWord (s : State) : Byte :=
  flagBit s.fault ++ flagBit (modeBit s.mode) ++ flagBit (levelBit s.latch) ++ flagBit s.trun ++
    (statusClass s).code ++ errField s

end Sys2Proof.Machine
end

