-- ==== Sys2Proof/Machine/Ops.lean ====
section
/-! DEFINITION. The operations the meanings share: a contract fault (60_exceptions.md R306), the entry
to Failed (R309), the port's answer (30_encoding.md R96), the ownership check (40_line.md R120), and
the fetch of the next agent's step (20_memory.md R66). The block has no memory, so there is no
operation over one (20_memory.md R60). -/

namespace Sys2Proof.Machine

/-- `raise Fault(c)`: the first cause is kept, FAULT is set, and "the command has no other effect and
returns no response" (60_exceptions.md R306). There is no return from it: only reset clears it. -/
def raiseFault (c : FCause) (s : State) : State :=
  { s with fcause := if s.fault then s.fcause else c, fault := true, resp := none }

/-- `fail(kind)`, the entry to Failed: "Nothing else is written" (60_exceptions.md R309). There is no
return instruction: Failed is left by START or by reset (R310). -/
def failCycle (k : Errk) (s : State) : State := { s with errk := k, phase := .failed }

/-- The command returns a response. -/
def answer (r : Response) (s : State) : State := { s with resp := some r }

/-- The command completes and returns nothing. -/
def silent (s : State) : State := { s with resp := none }

/-- The top value of TCOUNT, 2^W - 1. -/
def tcountMax (c : Config) : Nat := 2 ^ c.timerBits - 1

/-- "Every line command ... is checked first against ownership" (40_line.md R120): `owned` is what the
command does when the engine is not busy. -/
def lineCommand (owned : State → State) (s : State) : Result :=
  .next (if busy s then raiseFault .lineOwnedByDriver s else owned s)

/-- A word that is no command (30_encoding.md R94). -/
def illegalCommand (s : State) : Result := .next (raiseFault .illegalCommand s)

/-- The step that comes next and the state without it: the head of the schedule, or, where nothing is
scheduled, a free draw (20_memory.md R66). -/
def nextEvent (s : State) : Event × State :=
  match s.sched with
  | e :: rest => (e, { s with sched := rest })
  | [] => (Config.freeEvent s.free, { s with free := s.free + 1 })

end Sys2Proof.Machine
end

