-- ==== Sys2Proof/Machine/Agents.lean ====
section
/-! DEFINITION. The steps of the clock (40_line.md R127) and of the sensor (40_line.md R129), and the
reset of the block (70_reset_and_hazards.md R340). -/

namespace Sys2Proof.Machine

/-- One tick: TCOUNT <- min(TCOUNT + 1, 2^W - 1). The clock "has no step while TRUN = 0": scheduled
then it changes nothing (notes/assumptions/4.md). -/
def clockStep (s : State) : State :=
  if s.trun then { s with tcount := min (s.tcount + 1) (tcountMax s.cfg) } else s

/-- The sensor sets the level of the next sample while MODE = 1; while MODE = 0 "The sensor cannot
change it" (40_line.md R128, R129). -/
def sensorStep (l : Level) (s : State) : State :=
  match s.mode with
  | .input => { s with drive := some l }
  | .output => s

/-- "Reset puts every register at its reset value" (70_reset_and_hazards.md R340). The configuration
and the outside agents' inputs are not registers and stay; a response is not held across it. -/
def resetStep (s : State) : State :=
  { State.reset with cfg := s.cfg, drive := s.drive, sched := s.sched, free := s.free }

end Sys2Proof.Machine
end

