-- ==== Sys2Proof/Machine/Cycle.lean ====
section
/-! DEFINITION. The meaning of START, which begins a read cycle (41_handshake.md R161). -/

namespace Sys2Proof.Machine

/-- What START writes, "all in the one step" (41_handshake.md R161). -/
def beginCycle (s : State) : State :=
  { s with
    mode := .output, latch := .low, tcount := 0
    buf := Buffer.zero, bitidx := 0, errk := .none
    phase := .startLow }

/-- START: a fault while busy; accepted in Idle, Done and Failed alike (41_handshake.md R161). -/
def execStart (s : State) : Result :=
  .next (if busy s then raiseFault .startWhileBusy s else silent (beginCycle s))

end Sys2Proof.Machine
end

