-- ==== Sys2Proof/Machine/Line.lean ====
section
/-! DEFINITION. The meanings of the six line commands (40_line.md R121 to R126). Each is checked
against ownership first (R120). -/

namespace Sys2Proof.Machine

/-- SETMODE m: MODE <- m (40_line.md R121). -/
def execSetmode (m : Mode) (s : State) : Result :=
  lineCommand (fun s => silent { s with mode := m }) s

/-- WRITE v: a fault while MODE = 1, else LATCH <- v (40_line.md R122). -/
def execWrite (v : Level) (s : State) : Result :=
  lineCommand (fun s =>
    match s.mode with
    | .input => raiseFault .writeInInputMode s
    | .output => silent { s with latch := v }) s

/-- READ: return Pin() (40_line.md R123). -/
def execRead (s : State) : Result :=
  lineCommand (fun s => answer (.level (pin s)) (afterPin s)) s

/-- RSTTMR: TCOUNT <- 0; TRUN is not changed (40_line.md R124). -/
def execRsttmr (s : State) : Result :=
  lineCommand (fun s => silent { s with tcount := 0 }) s

/-- ELAPSED: return TCOUNT (40_line.md R125). -/
def execElapsed (s : State) : Result :=
  lineCommand (fun s => answer (.count s.tcount) s) s

/-- TMRCTL s: TRUN <- s; TCOUNT is not changed (40_line.md R126). -/
def execTmrctl (run : Bool) (s : State) : Result :=
  lineCommand (fun s => silent { s with trun := run }) s

end Sys2Proof.Machine
end

