-- ==== Sys2Proof/Machine/Port.lean ====
section
/-! DEFINITION. The meanings of the three result commands (44_host.md R241 to R243). -/

namespace Sys2Proof.Machine

/-- RDSTAT: return STATUS, "allowed in every state, busy or not" (44_host.md R241). -/
def execRdstat (s : State) : Result := .next (answer (.status (statusWord s)) s)

/-- RDBYTE k: a fault unless CLASS = Ready, else return B[k] (44_host.md R242). -/
def execRdbyte (k : BitVec 2) (s : State) : Result :=
  .next (if statusClass s = .ready then answer (.byte (window s.buf k)) s
    else raiseFault .noReading s)

/-- RDFAULT: return FCAUSE; it does not clear FAULT (44_host.md R243). -/
def execRdfault (s : State) : Result := .next (answer (.cause s.fcause.code) s)

end Sys2Proof.Machine
end

