-- ==== Sys2Proof/Machine/Dispatch.lean ====
section
/-! DEFINITION. One arm for each command (30_encoding.md R92). -/

namespace Sys2Proof.Machine

def exec (i : Instr) (s : State) : Host.Outcome State Fault Refusal :=
  match i with
  | .setmode m => Sys2Proof.Machine.execSetmode m s
  | .write v => Sys2Proof.Machine.execWrite v s
  | .read => Sys2Proof.Machine.execRead s
  | .rsttmr => Sys2Proof.Machine.execRsttmr s
  | .elapsed => Sys2Proof.Machine.execElapsed s
  | .tmrctl r => Sys2Proof.Machine.execTmrctl r s
  | .start => Sys2Proof.Machine.execStart s
  | .rdstat => Sys2Proof.Machine.execRdstat s
  | .rdbyte k => Sys2Proof.Machine.execRdbyte k s
  | .rdfault => Sys2Proof.Machine.execRdfault s

end Sys2Proof.Machine
end

