-- ==== Sys2Proof/Machine/Bitframe.lean ====
section
/-! DEFINITION. The two pure functions of the bit stream: the pulse-width decoder (42_bitframe.md
R192) and the packing of a decoded bit (42_bitframe.md R193). -/

namespace Sys2Proof.Machine

/-- decodeBit(width) = 1 if width > T_THRESH, and 0 otherwise; "The comparison is strict". -/
def decodeBit (c : Config) (width : Nat) : Bool := decide (c.tThresh < width)

/-- pack(B, i, b) = B with B[i div 8][7 - (i mod 8)] <- b, for i in 0..39. An index above 39, which
BITIDX never holds, leaves B as it is (notes/assumptions/7.md). -/
def pack (B : Buffer) (i : Nat) (b : Bool) : Buffer :=
  B.set (i / 8) (setBit (B.get (i / 8)) (7 - i % 8) b)

end Sys2Proof.Machine
end

