-- ==== Sys2Proof/Machine/Engine.lean ====
section
/-! DEFINITION. The engine agent's step (41_handshake.md R160) and the six state rules
(41_handshake.md R162 to R165; 42_bitframe.md R190, R191). Each rule takes the sample (p, E) and the
state after it, and tests the awaited level before the timeout. -/

namespace Sys2Proof.Machine

/-- StartLow: hold the line low for T_START_LOW ticks (41_handshake.md R162). -/
def stepStartLow (E : Nat) (s : State) : State :=
  if s.cfg.tStartLow ≤ E then { s with latch := .high, tcount := 0, phase := .startHigh } else s

/-- StartHigh: hold the line high for T_START_HIGH ticks, then release it (41_handshake.md R163). -/
def stepStartHigh (E : Nat) (s : State) : State :=
  if s.cfg.tStartHigh ≤ E then { s with mode := .input, tcount := 0, phase := .respLow } else s

/-- RespLow: wait through the sensor's low response pulse (41_handshake.md R164). -/
def stepRespLow (p : Level) (E : Nat) (s : State) : State :=
  match p with
  | .high => { s with tcount := 0, phase := .respHigh }
  | .low => if s.cfg.tResp < E then failCycle .noResponse s else s

/-- RespHigh: wait through the sensor's high response pulse (41_handshake.md R165). -/
def stepRespHigh (p : Level) (E : Nat) (s : State) : State :=
  match p with
  | .low => { s with tcount := 0, bitidx := 0, phase := .bitLow }
  | .high => if s.cfg.tResp < E then failCycle .noResponse s else s

/-- BitLow: wait through the low part of bit BITIDX (42_bitframe.md R190). -/
def stepBitLow (p : Level) (E : Nat) (s : State) : State :=
  match p with
  | .high => { s with tcount := 0, phase := .bitHigh }
  | .low => if s.cfg.tBit < E then failCycle .timeout s else s

/-- BitHigh: measure the high part of bit BITIDX, decode it and pack it; on entering Done TCOUNT is
not reset (42_bitframe.md R191). -/
def stepBitHigh (p : Level) (E : Nat) (s : State) : State :=
  match p with
  | .low =>
    let packed := pack s.buf s.bitidx.toNat (decodeBit s.cfg E)
    if s.bitidx = 39 then { s with buf := packed, phase := .done }
    else { s with buf := packed, bitidx := s.bitidx + 1, tcount := 0, phase := .bitLow }
  | .high => if s.cfg.tBit < E then failCycle .timeout s else s

/-- The one rule of STATE, on the sample (p, E). -/
def stateRule (p : Level) (E : Nat) (s : State) : State :=
  match s.phase with
  | .startLow => stepStartLow E s
  | .startHigh => stepStartHigh E s
  | .respLow => stepRespLow p E s
  | .respHigh => stepRespHigh p E s
  | .bitLow => stepBitLow p E s
  | .bitHigh => stepBitHigh p E s
  | .idle | .done | .failed => s

/-- One engine step: one sample of the pin and the counter at the same instant, then the rule of
STATE. "The engine agent has a step exactly when `busy` holds" (41_handshake.md R160): scheduled in
Idle, Done or Failed it changes nothing (notes/assumptions/4.md). -/
def engineStep (s : State) : State :=
  if busy s then stateRule (pin s) s.tcount (afterPin s) else s

end Sys2Proof.Machine
end

