-- ==== Sys2Proof/Machine/Schedule.lean ====
section
/-! DEFINITION. One step of the agent whose turn it is (20_memory.md R66). -/

namespace Sys2Proof.Machine

/-- A host step: decode the word, then run the command or fault (44_host.md R240; 60_exceptions.md
R307: IllegalCommand is decided before any other check). -/
def hostStep (w : Byte) (s : State) : Result :=
  match decode w with
  | .ok i => exec i s
  | .error _ => illegalCommand s

/-- One step of one agent. -/
def runEvent (e : Event) (s : State) : Result :=
  match e with
  | .host w => hostStep w s
  | .engine => .next (engineStep s)
  | .clock => .next (clockStep s)
  | .sensor l => .next (sensorStep l s)
  | .reset => .next (resetStep s)

/-- The next agent's step, under a well-formed configuration; any other "has no run"
(00_scope.md R9). -/
def runNext (s : State) : Result :=
  if s.cfg.wf then runEvent (nextEvent s).1 (nextEvent s).2 else .refused .illFormedConfig

/-- The host's next step issues the word. -/
def issueNext (w : Byte) (s : State) : State := { s with sched := .host w :: s.sched }

end Sys2Proof.Machine
end

