-- ==== Sys2Proof/Machine/Step.lean ====
section
/-! DEFINITION. The step of the machine, and the place where it finds its next command. The block
fetches from no memory (20_memory.md R69): the host's command port takes the fetch's part. -/

namespace Sys2Proof.Machine

/-- One step: the next agent's (Machine/Schedule.lean). -/
def step (s : State) : Host.Outcome State Fault Refusal := runNext s

/-- `s` with the host's step of the table word as the very next step. -/
def State.withFetchWord (s : State) (nbits w : Nat) : State := issueNext (tableCommand nbits w) s

end Sys2Proof.Machine
end

