-- ==== Sys2Proof/Machine/HostSeq.lean ====
section
/-! DEFINITION. The host-side sequences WAITIDLE, CYCLE, HOLD and POLLWHILE (30_encoding.md R98) and the
single call per cycle, which is CYCLE and the reading of its outcome (44_host.md R245): a sequence is a
control point, the command it issues there, and where the response takes it. Each command is a host
step of its own, between which any agent may step. -/

namespace Sys2Proof.Machine

/-- The control points of the sequences and the ways they end. -/
inductive HostSeq
  /-- WAITIDLE, about to issue RDSTAT. -/
  | waitIdle
  /-- CYCLE, about to issue START. -/
  | cycle
  /-- CYCLE in its WAITIDLE. -/
  | cycleWait
  /-- CYCLE, about to issue its final RDSTAT. -/
  | cycleRead
  /-- HOLD n, about to issue RSTTMR. -/
  | hold (n : Nat)
  /-- HOLD n in its loop, about to issue ELAPSED. -/
  | holdLoop (n : Nat)
  /-- POLLWHILE l n, about to issue RSTTMR. -/
  | poll (l : Level) (n : Nat)
  /-- POLLWHILE l n in its loop, about to issue READ. -/
  | pollPin (l : Level) (n : Nat)
  /-- POLLWHILE l n in its loop, about to issue ELAPSED. -/
  | pollCount (l : Level) (n : Nat)
  /-- The call has found CLASS = Ready, about to issue RDBYTE 0 (HINT). -/
  | takeHint
  /-- About to issue RDBYTE 1 (HFRAC), holding the bytes read. -/
  | takeHfrac (hint : Byte)
  /-- About to issue RDBYTE 2 (TINT), holding the bytes read. -/
  | takeTint (hint hfrac : Byte)
  /-- About to issue RDBYTE 3 (TFRAC), holding the bytes read. -/
  | takeTfrac (hint hfrac tint : Byte)
  /-- The sequence has ended; CYCLE holds the STATUS it read last. -/
  | exit (st : Option Byte)
  /-- The call has ended and yields its outcome. -/
  | outcome (r : CycleResult)
  /-- POLLWHILE has gone to its label. -/
  | branch
  /-- A response the sequence needs is absent, because its command faulted; R98 says nothing further. -/
  | noResponse
  deriving DecidableEq, Repr

/-- The command issued at a control point. -/
def HostSeq.command : HostSeq → Option Instr
  | .waitIdle | .cycleWait | .cycleRead => some .rdstat
  | .cycle => some .start
  | .hold _ | .poll _ _ => some .rsttmr
  | .holdLoop _ | .pollCount _ _ => some .elapsed
  | .pollPin _ _ => some .read
  | .takeHint => some (.rdbyte 0)
  | .takeHfrac _ => some (.rdbyte 1)
  | .takeTint _ _ => some (.rdbyte 2)
  | .takeTfrac _ _ _ => some (.rdbyte 3)
  | .exit _ | .outcome _ | .branch | .noResponse => none

/-- CLASS of a STATUS word, st[3:2]. -/
def statusClassBits (st : Byte) : BitVec 2 := st.extractLsb' 2 2

/-- Where a control point goes on the response of its command. -/
def HostSeq.advance (q : HostSeq) (r : Option Response) : HostSeq :=
  match q, r with
  | .waitIdle, some (.status st) => if statusClassBits st ≠ 1 then .exit none else .waitIdle
  | .cycle, _ => .cycleWait
  | .cycleWait, some (.status st) => if statusClassBits st ≠ 1 then .cycleRead else .cycleWait
  | .cycleRead, some (.status st) => .exit (some st)
  | .hold n, _ => .holdLoop n
  | .holdLoop n, some (.count e) => if n ≤ e then .exit none else .holdLoop n
  | .poll l n, _ => .pollPin l n
  | .pollPin l n, some (.level p) => if p ≠ l then .exit none else .pollCount l n
  | .pollCount l n, some (.count e) => if n < e then .branch else .pollPin l n
  | .takeHint, some (.byte b) => .takeHfrac b
  | .takeHfrac h, some (.byte b) => .takeTint h b
  | .takeTint h f, some (.byte b) => .takeTfrac h f b
  | .takeTfrac h f t, some (.byte b) => .outcome (.reading h f t b)
  | .exit st, _ => .exit st
  | .outcome r, _ => .outcome r
  | .branch, _ => .branch
  | _, _ => .noResponse

/-- One host step of a sequence: issue its command and advance on what it returned. A sequence that
has ended issues nothing. -/
def HostSeq.issue (q : HostSeq) (s : State) : HostSeq × State :=
  match q.command with
  | none => (q, s)
  | some i =>
    match exec i s with
    | .next t => (q.advance t.resp, t)
    | .fault _ | .refused _ => (.noResponse, s)

/-- ERR of a STATUS word, st[1:0]. -/
def errFieldBits (st : Byte) : BitVec 2 := st.extractLsb' 0 2

/-- The error kind of an ERR code (60_exceptions.md R300): 0 is no error. -/
def errorResult (err : BitVec 2) : CycleResult :=
  match err.toNat with
  | 1 => .error .noResponse
  | 2 => .error .timeout
  | 3 => .error .checksumMismatch
  | _ => .noResult

/-- How the call reads the outcome, "from CLASS and ERR and, if CLASS = Ready, from RDBYTE 0..3"
(44_host.md R245). With CLASS Idle or Busy, where R245 is silent, it is R221's NoResult
(notes/assumptions/12.md). -/
def HostSeq.readOutcome (st : Byte) : HostSeq :=
  match (statusClassBits st).toNat with
  | 2 => .takeHint
  | 3 => .outcome (errorResult (errFieldBits st))
  | _ => .outcome .noResult

/-- One host step of the single call per cycle: CYCLE's step, and from CYCLE's end on the reading of
the outcome (44_host.md R245). -/
def HostSeq.issueCall (q : HostSeq) (s : State) : HostSeq × State :=
  match q.issue s with
  | (.exit (some st), t) => (readOutcome st, t)
  | r => r

end Sys2Proof.Machine
end

