-- ==== Sys2Proof/Safety.lean ====
section
/-! DEFINITION. What a claim may say of a run: the state's invariant, the end of a cycle
(70_reset_and_hazards.md R352), good states (60_exceptions.md), schedules of the agents' steps, and
the sensor's scripts (95_test_vectors.md section 0). -/

namespace Sys2Proof.Machine

/-- The engine has reached one of its two terminal states (42_bitframe.md R194, R195). -/
def State.ended (s : State) : Prop := s.phase = .done ∨ s.phase = .failed

/-- "A model should treat a state with FAULT = 1 as faulted: never a good final state"
(60_exceptions.md). -/
def State.good (s : State) : Prop := s.fault = false

/-- The cycle that `s` is inside ends within `k` steps: it stays busy until the first step that leaves
STATE in Done or Failed (70_reset_and_hazards.md R352). A reset abandons it and does not end it. -/
def State.cycleEnds (s : State) (k : Nat) : Prop :=
  ∃ i ≤ k, (∃ u, Host.Core.run Sys2Proof.core i s = .next u ∧ u.ended) ∧
    ∀ m < i, ∃ v, Host.Core.run Sys2Proof.core m s = .next v ∧ busy v = true

/-- A cycle hangs "if it never ends" (70_reset_and_hazards.md R352). -/
def State.hangs (s : State) : Prop := ∀ k, ¬ s.cycleEnds k

/-- The run of `k` steps from `s` ends every cycle it starts: wherever step `j` makes the engine busy,
the cycle entered there ends before the run does. -/
def State.endsItsCycles (s : State) (k : Nat) : Prop :=
  ∀ j < k, ∀ t u, Host.Core.run Sys2Proof.core j s = .next t →
    Host.Core.run Sys2Proof.core (j + 1) s = .next u → busy t = false → busy u = true →
    u.cycleEnds (k - (j + 1))

/-- A run of `k` steps is good "when every cycle it starts ends and FAULT = 0 throughout"
(70_reset_and_hazards.md R352). Where a run begins is open there: here it may begin in any state, also
inside a cycle, which it did not start and which need not end, DESIGN CHOICE
(notes/assumptions/17.md). -/
def State.goodRun (s : State) (k : Nat) : Prop :=
  (∀ j ≤ k, ∃ t, Host.Core.run Sys2Proof.core j s = .next t ∧ t.good) ∧ s.endsItsCycles k

/-- What holds of every state that a run can reach: the widths and ranges of the registers
(10_state.md R23, R26), FCAUSE beside FAULT (R29), ERRK beside STATE (R28; 60_exceptions.md R309),
the line during a cycle (41_handshake.md R161 to R163), and the bits not yet read (42_bitframe.md
R195). -/
structure State.Inv (s : State) : Prop where
  /-- TCOUNT fits its W bits. -/
  tcount_fits : s.tcount ≤ 2 ^ s.cfg.timerBits - 1
  /-- BITIDX "never exceeds 39". -/
  bitidx_le : s.bitidx.toNat ≤ 39
  /-- FCAUSE is 0 exactly when FAULT is. -/
  cause_iff_fault : s.fcause = .none ↔ s.fault = false
  /-- ERRK records a kind exactly in Failed. -/
  errk_iff_failed : s.errk = .none ↔ s.phase ≠ .failed
  /-- StartLow drives the line low. -/
  start_low_line : s.phase = .startLow → s.mode = .output ∧ s.latch = .low
  /-- StartHigh drives the line high. -/
  start_high_line : s.phase = .startHigh → s.mode = .output ∧ s.latch = .high
  /-- The four wait states have released the line. -/
  wait_line : s.phase = .respLow ∨ s.phase = .respHigh ∨ s.phase = .bitLow ∨ s.phase = .bitHigh →
    s.mode = .input ∧ s.latch = .high
  /-- BITIDX is 0 until the first data bit, and after NoResponse. -/
  bitidx_zero : s.phase = .startLow ∨ s.phase = .startHigh ∨ s.phase = .respLow ∨
      s.phase = .respHigh ∨ s.errk = .noResponse → s.bitidx = 0
  /-- BITIDX stays 39 in Done. -/
  bitidx_done : s.phase = .done → s.bitidx = 39
  /-- During a cycle and in Failed the bits from BITIDX on are 0. -/
  unread_zero : busy s = true ∨ s.phase = .failed →
    ∀ i, s.bitidx.toNat ≤ i → i < 40 → s.buf.streamBit i = false

/-- The two states agree on everything but what the host has caused and been told: FAULT, FCAUSE and
the last response. -/
def State.sameCycle (s t : State) : Prop :=
  { s with fault := t.fault, fcause := t.fcause, resp := t.resp } = t

/-- Instants of the lockstep schedule with no host command (95_test_vectors.md section 0): the sensor
sets its level, the engine steps, the clock ticks. -/
def lockstep : List Level → List Event
  | [] => []
  | l :: rest => .sensor l :: .engine :: .clock :: lockstep rest

/-- A stretch of schedule that is fair to the engine and then to the clock, and holds no reset; the
host and the sensor may step anywhere in it. -/
def fairRound (r : List Event) : Prop :=
  .reset ∉ r ∧ ∃ a b c, r = a ++ .engine :: (b ++ .clock :: c)

/-- How many ticks a stretch of schedule holds. -/
def ticks (es : List Event) : Nat := es.count .clock

/-- The bound of 42_bitframe.md R196, in ticks. -/
def cycleBound (c : Config) : Nat :=
  c.tStartLow + c.tStartHigh + 2 * (c.tResp + 1) + 80 * (c.tBit + 1)

/-- A sensor's script of data bits: each a low run and then a high run, in samples. -/
def bitScript : List (Nat × Nat) → List Level
  | [] => []
  | (lo, hi) :: rest => List.replicate lo .low ++ List.replicate hi .high ++ bitScript rest

/-- A whole frame from RespLow's first sample: the response low and high, the bits, and the low sample
that ends the last bit (95_test_vectors.md section 0). -/
def frameScript (respLow respHigh : Nat) (bits : List (Nat × Nat)) : List Level :=
  List.replicate respLow .low ++ List.replicate respHigh .high ++ bitScript bits ++ [.low]

end Sys2Proof.Machine
end

