-- ==== Sys2Proof/Certificates/Slice0/Obligations.lean ====
section
/-! DEFINITION. The statements about the machine, each from the rules of spec/ its docstring names.
`raiseFault c s` is what ContractFaultIsStickyAndIsolated says it is; `afterPin s` differs from `s`
only in the sensor's inputs (PinIsLatchOrSensorDraw). -/

open Sys2Proof Sys2Proof.Machine

/-! ### Reset and configuration -/

/-- 70_reset_and_hazards.md R340. The values of BITIDX and B after reset are the model's choice
(notes/assumptions/2.md), and nothing is said of them. -/
def Obligations.ResetPutsRegistersAtResetValues : Prop :=
  (∀ s : State, s = State.reset ∨ (∃ r, runEvent .reset r = .next s) →
    s.mode = .input ∧ s.latch = .high ∧ s.trun = false ∧ s.tcount = 0 ∧ s.phase = .idle ∧
      s.errk = .none ∧ s.fault = false ∧ s.fcause = .none ∧ cycleResult s = .noResult) ∧
  (∀ r : State, ∃ s, runEvent .reset r = .next s) ∧
  (∀ (e : Event) (s t : State), e ≠ .reset → s.fault = true → runEvent e s = .next t →
    t.fault = true ∧ t.fcause = s.fcause)

/-- 00_scope.md R9, WF1 to WF6. -/
def Obligations.IllFormedConfigurationHasNoRun : Prop :=
  (∀ s : State,
    ((18000 : ℚ) ≤ s.cfg.tStartLow * s.cfg.tickUs ∧
      (20 : ℚ) ≤ s.cfg.tStartHigh * s.cfg.tickUs ∧ s.cfg.tStartHigh * s.cfg.tickUs ≤ (40 : ℚ) ∧
      s.cfg.tThresh < s.cfg.tBit ∧
      max s.cfg.tResp s.cfg.tBit < 2 ^ s.cfg.timerBits - 1 ∧
      max s.cfg.tStartLow s.cfg.tStartHigh ≤ 2 ^ s.cfg.timerBits - 1 ∧
      0 < s.cfg.tickUs ∧ 1 ≤ s.cfg.timerBits → ∃ t, step s = .next t) ∧
    (¬ ((18000 : ℚ) ≤ s.cfg.tStartLow * s.cfg.tickUs ∧
      (20 : ℚ) ≤ s.cfg.tStartHigh * s.cfg.tickUs ∧ s.cfg.tStartHigh * s.cfg.tickUs ≤ (40 : ℚ) ∧
      s.cfg.tThresh < s.cfg.tBit ∧
      max s.cfg.tResp s.cfg.tBit < 2 ^ s.cfg.timerBits - 1 ∧
      max s.cfg.tStartLow s.cfg.tStartHigh ≤ 2 ^ s.cfg.timerBits - 1 ∧
      0 < s.cfg.tickUs ∧ 1 ≤ s.cfg.timerBits) → step s = .refused .illFormedConfig)) ∧
  (({} : Config).tStartLow = 25000 ∧ ({} : Config).tStartHigh = 30 ∧ ({} : Config).tResp = 100 ∧
    ({} : Config).tBit = 100 ∧ ({} : Config).tThresh = 50 ∧ ({} : Config).tickUs = 1 ∧
    ({} : Config).timerBits = 16 ∧ ({} : Config).wf = true)

/-! ### Encoding -/

/-- 30_encoding.md R93: the operand of each command and its reserved bits. -/
def Obligations.OperandsAreAssembledFromTheWord : Prop :=
  ∀ (w : Byte) (i : Instr), decode w = .ok i ↔
    (w &&& 0xFE#8 = 0x10#8 ∧ i = .setmode (if w.getLsbD 0 then .input else .output)) ∨
    (w &&& 0xFE#8 = 0x20#8 ∧ i = .write (if w.getLsbD 0 then .high else .low)) ∨
    (w = 0x30#8 ∧ i = .read) ∨
    (w = 0x40#8 ∧ i = .rsttmr) ∨
    (w = 0x50#8 ∧ i = .elapsed) ∨
    (w &&& 0xFE#8 = 0x60#8 ∧ i = .tmrctl (w.getLsbD 0)) ∨
    (w = 0x80#8 ∧ i = .start) ∨
    (w = 0x90#8 ∧ i = .rdstat) ∨
    (w &&& 0xFC#8 = 0xA0#8 ∧ i = .rdbyte (w.extractLsb' 0 2)) ∨
    (w = 0xB0#8 ∧ i = .rdfault)

/-- 30_encoding.md R94 and R95: the illegal words, exhaustively, and what each does. -/
def Obligations.IllegalWordsOnlyFault : Prop :=
  (∀ w : Byte,
    (∀ i, decode w ≠ .ok i) ↔
      (opField w ∈ [0x0#4, 0x7#4, 0xC#4, 0xD#4, 0xE#4, 0xF#4] ∨
        w.extractLsb' 0 4 &&& reservedBits w ≠ 0#4)) ∧
  (∀ w : Byte,
    (∀ i, decode w ≠ .ok i) ↔
      (w.toNat ≤ 0x0F ∨ (0x12 ≤ w.toNat ∧ w.toNat ≤ 0x1F) ∨ (0x22 ≤ w.toNat ∧ w.toNat ≤ 0x2F) ∨
        (0x31 ≤ w.toNat ∧ w.toNat ≤ 0x3F) ∨ (0x41 ≤ w.toNat ∧ w.toNat ≤ 0x4F) ∨
        (0x51 ≤ w.toNat ∧ w.toNat ≤ 0x5F) ∨ (0x62 ≤ w.toNat ∧ w.toNat ≤ 0x7F) ∨
        (0x81 ≤ w.toNat ∧ w.toNat ≤ 0x8F) ∨ (0x91 ≤ w.toNat ∧ w.toNat ≤ 0x9F) ∨
        (0xA4 ≤ w.toNat ∧ w.toNat ≤ 0xAF) ∨ 0xB1 ≤ w.toNat)) ∧
  ((List.range 256).filter fun n => (decode (BitVec.ofNat 8 n)).toOption = none).length = 240 ∧
  (∀ (w : Byte) (s : State), (∀ i, decode w ≠ .ok i) →
    runEvent (.host w) s = .next (raiseFault .illegalCommand s))

/-- 95_test_vectors.md V-E-1: the 16 legal words. -/
def Obligations.LegalWordsDecodeToTheirCommands : Prop :=
  [0x10#8, 0x11#8, 0x20#8, 0x21#8, 0x30#8, 0x40#8, 0x50#8, 0x60#8, 0x61#8, 0x80#8, 0x90#8,
    0xA0#8, 0xA1#8, 0xA2#8, 0xA3#8, 0xB0#8].map decode =
  [.ok (.setmode .output), .ok (.setmode .input), .ok (.write .low), .ok (.write .high),
    .ok .read, .ok .rsttmr, .ok .elapsed, .ok (.tmrctl false), .ok (.tmrctl true), .ok .start,
    .ok .rdstat, .ok (.rdbyte 0), .ok (.rdbyte 1), .ok (.rdbyte 2), .ok (.rdbyte 3), .ok .rdfault]

/-- Decoder and encoder are inverse to each other, and exactly the well-formed words decode
(30_encoding.md sections 1 to 4). -/
def Obligations.DecodeAndEncodeAgree : Prop :=
  (∀ i : Instr, decode (encode i) = .ok i) ∧
  (∀ (w : Byte) (i : Instr), decode w = .ok i → encode i = w) ∧
  (∀ w : Byte, wordWf w = true ↔ ∃ i, encode i = w)

/-! ### The step -/

/-- 44_host.md section 1: a step whose turn is the host's runs the command its word decodes to, at the
state without that turn; so does `withFetchWord`. -/
def Obligations.StepRunsTheDecodedCommand : Prop :=
  (∀ (s : State) (w : Byte) (es : List Event) (i : Instr), s.cfg.wf = true →
    s.sched = .host w :: es → decode w = .ok i → step s = exec i { s with sched := es }) ∧
  (∀ (s : State) (n : Nat) (i : Instr), s.cfg.wf = true → n < 256 →
    decodeTableWord 8 n = some i → step (s.withFetchWord 8 n) = exec i s)

/-- 20_memory.md R66: whatever agent's step is scheduled first runs, in one step, at the state without
that turn; with nothing scheduled a free draw decides, so every step of every agent is considered. -/
def Obligations.ScheduledAgentStepsNext : Prop :=
  (∀ (s : State) (e : Event) (es : List Event), s.cfg.wf = true → s.sched = e :: es →
    step s = runEvent e { s with sched := es }) ∧
  (∀ s : State, s.cfg.wf = true → s.sched = [] →
    step s = runEvent (Config.freeEvent s.free) { s with free := s.free + 1 })

/-- 44_host.md section 1: every command, and every word on the port, completes in its own step in
every state; nothing is queued, and no command writes the configuration. -/
def Obligations.EveryCommandCompletesInItsOwnStep : Prop :=
  (∀ (i : Instr) (s : State), ∃ t, exec i s = .next t ∧ t.sched = s.sched ∧ t.cfg = s.cfg) ∧
  (∀ (w : Byte) (s : State), ∃ t, runEvent (.host w) s = .next t ∧ t.sched = s.sched ∧ t.cfg = s.cfg)

/-! ### The line commands -/

/-- 40_line.md R121. -/
def Obligations.SetmodeSwitchesTheDirection : Prop :=
  decode 0x10#8 = .ok (.setmode .output) ∧ decode 0x11#8 = .ok (.setmode .input) ∧
  ∀ (m : Mode) (s : State),
    (busy s = false → exec (.setmode m) s = .next { s with mode := m, resp := none }) ∧
    (busy s = true → exec (.setmode m) s = .next (raiseFault .lineOwnedByDriver s)) ∧
    (∀ t, busy s = false → exec (.setmode m) s = .next t →
      (m = .output → pin t = s.latch) ∧
      ∀ l u, m = .input → runEvent (.sensor l) t = .next u → pin u = l) ∧
    (∀ w : Byte, opField w = 0x1#4 → w.extractLsb' 1 3 ≠ 0#3 →
      runEvent (.host w) s = .next (raiseFault .illegalCommand s))

/-- 40_line.md R122. -/
def Obligations.WriteSetsTheLatchInOutputMode : Prop :=
  decode 0x20#8 = .ok (.write .low) ∧ decode 0x21#8 = .ok (.write .high) ∧
  ∀ (v : Level) (s : State),
    (busy s = false → s.mode = .output →
      exec (.write v) s = .next { s with latch := v, resp := none }) ∧
    (busy s = false → s.mode = .input →
      exec (.write v) s = .next (raiseFault .writeInInputMode s)) ∧
    (busy s = true → exec (.write v) s = .next (raiseFault .lineOwnedByDriver s)) ∧
    (∀ w : Byte, opField w = 0x2#4 → w.extractLsb' 1 3 ≠ 0#3 →
      runEvent (.host w) s = .next (raiseFault .illegalCommand s))

/-- 40_line.md R123: in Output mode the latch, in Input mode the sensor's level for this sample, or a
free level, and then the next sample is a fresh draw. How a draw is held until it is sampled is the
model's choice (notes/assumptions/6.md). -/
def Obligations.ReadReturnsTheSensedLevel : Prop :=
  decode 0x30#8 = .ok .read ∧
  ∀ s : State,
    (busy s = false → s.mode = .output →
      exec .read s = .next { s with resp := some (.level s.latch) }) ∧
    (∀ l, busy s = false → s.mode = .input → s.drive = some l →
      exec .read s = .next { s with resp := some (.level l), drive := none }) ∧
    (busy s = false → s.mode = .input → s.drive = none →
      exec .read s =
        .next { s with resp := some (.level (Config.freeLevel s.free)), free := s.free + 1 }) ∧
    (busy s = true → exec .read s = .next (raiseFault .lineOwnedByDriver s))

/-- 40_line.md R124, R125, R126. -/
def Obligations.TimerCommandsResetReadAndRun : Prop :=
  decode 0x40#8 = .ok .rsttmr ∧ decode 0x50#8 = .ok .elapsed ∧
  decode 0x60#8 = .ok (.tmrctl false) ∧ decode 0x61#8 = .ok (.tmrctl true) ∧
  ∀ s : State,
    (busy s = false →
      exec .rsttmr s = .next { s with tcount := 0, resp := none } ∧
      exec .elapsed s = .next { s with resp := some (.count s.tcount) } ∧
      ∀ r, exec (.tmrctl r) s = .next { s with trun := r, resp := none }) ∧
    (busy s = true →
      exec .rsttmr s = .next (raiseFault .lineOwnedByDriver s) ∧
      exec .elapsed s = .next (raiseFault .lineOwnedByDriver s) ∧
      ∀ r, exec (.tmrctl r) s = .next (raiseFault .lineOwnedByDriver s)) ∧
    (∀ w : Byte, opField w = 0x6#4 → w.extractLsb' 1 3 ≠ 0#3 →
      runEvent (.host w) s = .next (raiseFault .illegalCommand s))

/-! ### START and the result commands -/

/-- 41_handshake.md R161. -/
def Obligations.StartBeginsACycle : Prop :=
  decode 0x80#8 = .ok .start ∧
  ∀ s : State,
    (busy s = false →
      exec .start s = .next
        { s with mode := .output, latch := .low, tcount := 0, buf := ⟨0, 0, 0, 0, 0⟩, bitidx := 0,
                 errk := .none, phase := .startLow, resp := none }) ∧
    (busy s = true → exec .start s = .next (raiseFault .startWhileBusy s))

/-- 44_host.md R241 with the layout of 10_state.md R32: RDSTAT returns STATUS in every state and writes
nothing. -/
def Obligations.RdstatReturnsTheStatusWord : Prop :=
  decode 0x90#8 = .ok .rdstat ∧
  exec .rdstat State.reset = .next { State.reset with resp := some (.status 0x60#8) } ∧
  ∀ s : State, ∃ w : Byte,
    exec .rdstat s = .next { s with resp := some (.status w) } ∧
    w.getLsbD 7 = s.fault ∧
    w.getLsbD 6 = decide (s.mode = .input) ∧
    w.getLsbD 5 = decide (s.latch = .high) ∧
    w.getLsbD 4 = s.trun ∧
    w.extractLsb' 2 2 = (statusClass s).code ∧
    w.extractLsb' 0 2 = errField s ∧
    (busy s = true → w.extractLsb' 2 2 = 1#2 ∧ w.extractLsb' 0 2 = 0#2)

/-- 44_host.md R242: RDBYTE answers only while CLASS = Ready, in Done with a good checksum, and never
with B[4]. -/
def Obligations.RdbyteReadsOnlyAReadyReading : Prop :=
  decode 0xA0#8 = .ok (.rdbyte 0) ∧ decode 0xA1#8 = .ok (.rdbyte 1) ∧
  decode 0xA2#8 = .ok (.rdbyte 2) ∧ decode 0xA3#8 = .ok (.rdbyte 3) ∧
  ∀ s : State,
    (s.phase = .done →
      s.buf.humidityInt + s.buf.humidityFrac + s.buf.tempInt + s.buf.tempFrac = s.buf.checksum →
      exec (.rdbyte 0) s = .next { s with resp := some (.byte s.buf.humidityInt) } ∧
      exec (.rdbyte 1) s = .next { s with resp := some (.byte s.buf.humidityFrac) } ∧
      exec (.rdbyte 2) s = .next { s with resp := some (.byte s.buf.tempInt) } ∧
      exec (.rdbyte 3) s = .next { s with resp := some (.byte s.buf.tempFrac) }) ∧
    (s.phase ≠ .done ∨
        s.buf.humidityInt + s.buf.humidityFrac + s.buf.tempInt + s.buf.tempFrac ≠ s.buf.checksum →
      ∀ k, exec (.rdbyte k) s = .next (raiseFault .noReading s)) ∧
    (∀ w : Byte, opField w = 0xA#4 → w.extractLsb' 2 2 ≠ 0#2 →
      runEvent (.host w) s = .next (raiseFault .illegalCommand s))

/-- 44_host.md R243 with the codes of 60_exceptions.md R305. -/
def Obligations.RdfaultReturnsTheCauseCode : Prop :=
  decode 0xB0#8 = .ok .rdfault ∧
  (∀ s : State, s.Inv → s.fault = false →
    exec .rdfault s = .next { s with resp := some (.cause 0#3) }) ∧
  ∀ s : State,
    exec .rdfault s = .next { s with resp := some (.cause (
      match s.fcause with
      | .none => 0#3
      | .illegalCommand => 1#3
      | .writeInInputMode => 2#3
      | .lineOwnedByDriver => 3#3
      | .startWhileBusy => 4#3
      | .noReading => 5#3)) }

/-- 20_memory.md R65 and 40_line.md R123: the five reading commands change nothing but the response and
answer the same when repeated, but for a READ in Input mode, which also uses up its draw
(notes/assumptions/6.md). -/
def Obligations.ReadingCommandsChangeNoRegister : Prop :=
  ∀ (i : Instr) (s t : State),
    i = .read ∨ i = .elapsed ∨ i = .rdstat ∨ (∃ k, i = .rdbyte k) ∨ i = .rdfault →
    exec i s = .next t → t.resp ≠ none →
      (i ≠ .read ∨ s.mode = .output → t = { s with resp := t.resp } ∧ exec i t = .next t) ∧
      (i = .read → s.mode = .input →
        t = { s with resp := t.resp, drive := none, free := t.free } ∧
        t.free = if s.drive = none then s.free + 1 else s.free)

/-- 30_encoding.md R96: the width of each response, that a command which answers is one of the five,
and that a command that faults returns none. -/
def Obligations.ResponsesFitTheirWidths : Prop :=
  ∀ (i : Instr) (s t : State), s.Inv → exec i s = .next t →
    (∀ r, t.resp = some r →
      r.value < 2 ^ r.width s.cfg ∧
      (i = .read ∧ r.width s.cfg = 1 ∨ i = .elapsed ∧ r.width s.cfg = s.cfg.timerBits ∨
        i = .rdstat ∧ r.width s.cfg = 8 ∨ (∃ k, i = .rdbyte k) ∧ r.width s.cfg = 8 ∨
        i = .rdfault ∧ r.width s.cfg = 3)) ∧
    (s.fault = false → t.fault = true → t.resp = none) ∧
    (∀ c, (raiseFault c s).resp = none)

/-! ### Contract faults -/

/-- 60_exceptions.md R306. -/
def Obligations.ContractFaultIsStickyAndIsolated : Prop :=
  (∀ (c : FCause) (s : State),
    (s.fault = false → raiseFault c s = { s with fault := true, fcause := c, resp := none }) ∧
    (s.fault = true → raiseFault c s = { s with resp := none })) ∧
  (∀ (w : Byte) (s t : State), busy s = true → runEvent (.host w) s = .next t → s.sameCycle t) ∧
  (∀ (e : Event) (s t : State), e ≠ .reset → s.fault = true → runEvent e s = .next t →
    t.fault = true ∧ t.fcause = s.fcause) ∧
  (∀ (i : Instr) (c : FCause) (s t u : State), i ≠ .rdstat → i ≠ .rdfault →
    exec i s = .next t → exec i (raiseFault c s) = .next u → t.sameCycle u ∧ t.resp = u.resp)

/-- 60_exceptions.md R307. -/
def Obligations.FaultChecksAreOrdered : Prop :=
  ∀ (w : Byte) (s : State),
    ((∀ i, decode w ≠ .ok i) → runEvent (.host w) s = .next (raiseFault .illegalCommand s)) ∧
    (∀ i, decode w = .ok i → busy s = true →
      (∃ m, i = .setmode m) ∨ (∃ v, i = .write v) ∨ i = .read ∨ i = .rsttmr ∨ i = .elapsed ∨
        (∃ r, i = .tmrctl r) →
      runEvent (.host w) s = .next (raiseFault .lineOwnedByDriver s)) ∧
    (decode w = .ok .start → busy s = true →
      runEvent (.host w) s = .next (raiseFault .startWhileBusy s)) ∧
    (∀ v, decode w = .ok (.write v) → busy s = false → s.mode = .input →
      runEvent (.host w) s = .next (raiseFault .writeInInputMode s)) ∧
    (∀ k, decode w = .ok (.rdbyte k) → statusClass s ≠ .ready →
      runEvent (.host w) s = .next (raiseFault .noReading s))

/-! ### Status and validator -/

/-- 10_state.md R30, R31, R33, with the codes of R25 and R28. -/
def Obligations.ClassAndErrFollowTheState : Prop :=
  ∀ s : State,
    (busy s = true ↔ 1 ≤ s.phase.code.toNat ∧ s.phase.code.toNat ≤ 6) ∧
    (s.phase = .idle → (statusClass s).code = 0#2 ∧ errField s = 0#2) ∧
    (s.phase ∈ [Phase.startLow, .startHigh, .respLow, .respHigh, .bitLow, .bitHigh] →
      (statusClass s).code = 1#2 ∧ errField s = 0#2) ∧
    (s.phase = .done → checksumOk s.buf = true → (statusClass s).code = 2#2 ∧ errField s = 0#2) ∧
    (s.phase = .done → checksumOk s.buf = false → (statusClass s).code = 3#2 ∧ errField s = 3#2) ∧
    (s.phase = .failed → (statusClass s).code = 3#2 ∧
      (s.errk = .none → errField s = 0#2) ∧ (s.errk = .noResponse → errField s = 1#2) ∧
      (s.errk = .timeout → errField s = 2#2))

/-- 10_state.md R32: after reset STATUS = 0x60; 95_test_vectors.md V-L2-S2 to S6 give the other
words. -/
def Obligations.StatusWordsOfTheVectors : Prop :=
  statusWord State.reset = 0x60#8 ∧
  (∀ s : State, s.fault = false → s.trun = true →
    (s.phase = .idle → s.mode = .input → s.latch = .high → statusWord s = 0x70#8) ∧
    (s.phase = .startLow → s.mode = .output → s.latch = .low → statusWord s = 0x14#8) ∧
    (s.phase = .startHigh → s.mode = .output → s.latch = .high → statusWord s = 0x34#8) ∧
    (s.phase ∈ [Phase.respLow, .respHigh, .bitLow, .bitHigh] → s.mode = .input →
      s.latch = .high → statusWord s = 0x74#8) ∧
    (s.phase = .done → checksumOk s.buf = true → s.mode = .input → s.latch = .high →
      statusWord s = 0x78#8) ∧
    (s.phase = .done → checksumOk s.buf = false → s.mode = .input → s.latch = .high →
      statusWord s = 0x7F#8) ∧
    (s.phase = .failed → s.errk = .noResponse → s.mode = .input → s.latch = .high →
      statusWord s = 0x7D#8) ∧
    (s.phase = .failed → s.errk = .timeout → s.mode = .input → s.latch = .high →
      statusWord s = 0x7E#8)) ∧
  (∀ s : State, statusWord { s with fault := true } =
    statusWord { s with fault := false } ||| 0x80#8)

/-- 43_validator.md R220 and R221. -/
def Obligations.OutcomeIsTheValidatedResult : Prop :=
  (∀ B : Buffer, checksumOk B = true ↔
    B.checksum.toNat =
      (B.humidityInt.toNat + B.humidityFrac.toNat + B.tempInt.toNat + B.tempFrac.toNat) % 256) ∧
  (∀ s : State,
    (s.phase = .done → checksumOk s.buf = true →
      cycleResult s =
        .reading s.buf.humidityInt s.buf.humidityFrac s.buf.tempInt s.buf.tempFrac) ∧
    (s.phase = .done → checksumOk s.buf = false → cycleResult s = .error .checksumMismatch) ∧
    (s.phase = .failed → s.errk = .noResponse → cycleResult s = .error .noResponse) ∧
    (s.phase = .failed → s.errk = .timeout → cycleResult s = .error .timeout) ∧
    (s.phase = .idle ∨ busy s = true ∨ (s.phase = .failed ∧ s.errk = .none) →
      cycleResult s = .noResult))

/-! ### Pin, timer and clock -/

/-- 40_line.md R128 and R129: in Output mode the pin is the latch and no sensor step changes it; in
Input mode any level can be drawn, each draw serves one sample, and with no sensor step the draw is
a free value. How a draw is held is the model's choice (notes/assumptions/6.md). -/
def Obligations.PinIsLatchOrSensorDraw : Prop :=
  (∀ s : State, s.mode = .output →
    pin s = s.latch ∧ afterPin s = s ∧ ∀ l, runEvent (.sensor l) s = .next s) ∧
  (∀ (s : State) (l : Level), s.mode = .input →
    runEvent (.sensor l) s = .next { s with drive := some l } ∧
    pin { s with drive := some l } = l ∧
    afterPin { s with drive := some l } = { s with drive := none }) ∧
  (∀ s : State, s.mode = .input → s.drive = none →
    pin s = Config.freeLevel s.free ∧ afterPin s = { s with free := s.free + 1 })

/-- 40_line.md R127. That a clock turn with TRUN = 0 is a stutter is notes/assumptions/4.md. -/
def Obligations.ClockTicksAndSaturates : Prop :=
  ∀ s : State,
    (s.trun = true → runEvent .clock s =
      .next { s with tcount := min (s.tcount + 1) (2 ^ s.cfg.timerBits - 1) }) ∧
    (s.trun = false → runEvent .clock s = .next s)

/-- 40_line.md R130, for every step from a state whose TCOUNT fits its width, with the writers of 0
that it and 10_state.md R23 name. -/
def Obligations.TcountNeverFallsButToZero : Prop :=
  ∀ s t : State, s.tcount ≤ 2 ^ s.cfg.timerBits - 1 → step s = .next t →
    ((nextEvent s).1 = .clock → s.trun = true →
      (s.tcount < 2 ^ s.cfg.timerBits - 1 → t.tcount = s.tcount + 1) ∧
      (s.tcount = 2 ^ s.cfg.timerBits - 1 → t.tcount = s.tcount)) ∧
    ((nextEvent s).1 = .clock → s.trun = false → t.tcount = s.tcount) ∧
    ((nextEvent s).1 ≠ .clock → t.tcount ≠ s.tcount → t.tcount = 0 ∧
      ((nextEvent s).1 = .reset ∨
        (((nextEvent s).1 = .host 0x40#8 ∨ (nextEvent s).1 = .host 0x80#8) ∧ busy s = false) ∨
        ((nextEvent s).1 = .engine ∧
          (s.phase, t.phase) ∈ [(.startLow, .startHigh), (.startHigh, .respLow),
            (.respLow, .respHigh), (.respHigh, .bitLow), (.bitLow, .bitHigh),
            (.bitHigh, .bitLow)])))

/-! ### The state machine -/

/-- 41_handshake.md R160: the engine has a step exactly while busy, and it samples the pin and the
counter at once. That an engine turn outside a cycle is a stutter is notes/assumptions/4.md. -/
def Obligations.EngineStepsOnlyWhileBusy : Prop :=
  ∀ s : State,
    (s.phase = .idle ∨ s.phase = .done ∨ s.phase = .failed → runEvent .engine s = .next s) ∧
    (busy s = true → runEvent .engine s = .next (stateRule (pin s) s.tcount (afterPin s)))

/-- 41_handshake.md R162 and R163. -/
def Obligations.StartHoldsAreTimed : Prop :=
  ∀ s : State,
    (s.phase = .startLow → s.cfg.tStartLow ≤ s.tcount →
      runEvent .engine s =
        .next { afterPin s with latch := .high, tcount := 0, phase := .startHigh }) ∧
    (s.phase = .startLow → s.tcount < s.cfg.tStartLow →
      runEvent .engine s = .next (afterPin s)) ∧
    (s.phase = .startHigh → s.cfg.tStartHigh ≤ s.tcount →
      runEvent .engine s =
        .next { afterPin s with mode := .input, tcount := 0, phase := .respLow }) ∧
    (s.phase = .startHigh → s.tcount < s.cfg.tStartHigh →
      runEvent .engine s = .next (afterPin s))

/-- 41_handshake.md R164 and R165: the level is tested before the bound. -/
def Obligations.ResponsePhasesAreBounded : Prop :=
  ∀ s : State,
    (s.phase = .respLow → pin s = .high →
      runEvent .engine s = .next { afterPin s with tcount := 0, phase := .respHigh }) ∧
    (s.phase = .respLow → pin s = .low → s.cfg.tResp < s.tcount →
      runEvent .engine s = .next { afterPin s with errk := .noResponse, phase := .failed }) ∧
    (s.phase = .respLow → pin s = .low → s.tcount ≤ s.cfg.tResp →
      runEvent .engine s = .next (afterPin s)) ∧
    (s.phase = .respHigh → pin s = .low →
      runEvent .engine s = .next { afterPin s with tcount := 0, bitidx := 0, phase := .bitLow }) ∧
    (s.phase = .respHigh → pin s = .high → s.cfg.tResp < s.tcount →
      runEvent .engine s = .next { afterPin s with errk := .noResponse, phase := .failed }) ∧
    (s.phase = .respHigh → pin s = .high → s.tcount ≤ s.cfg.tResp →
      runEvent .engine s = .next (afterPin s))

/-- 42_bitframe.md R190 and R191. -/
def Obligations.BitPhasesAreMeasuredAndPacked : Prop :=
  ∀ s : State,
    (s.phase = .bitLow → pin s = .high →
      runEvent .engine s = .next { afterPin s with tcount := 0, phase := .bitHigh }) ∧
    (s.phase = .bitLow → pin s = .low → s.cfg.tBit < s.tcount →
      runEvent .engine s = .next { afterPin s with errk := .timeout, phase := .failed }) ∧
    (s.phase = .bitLow → pin s = .low → s.tcount ≤ s.cfg.tBit →
      runEvent .engine s = .next (afterPin s)) ∧
    (s.phase = .bitHigh → pin s = .low → s.bitidx = 39 →
      runEvent .engine s = .next { afterPin s with
        buf := pack s.buf s.bitidx.toNat (decide (s.cfg.tThresh < s.tcount)), phase := .done }) ∧
    (s.phase = .bitHigh → pin s = .low → s.bitidx.toNat < 39 →
      ∃ t, runEvent .engine s = .next t ∧ t.bitidx.toNat = s.bitidx.toNat + 1 ∧
        t = { afterPin s with
          buf := pack s.buf s.bitidx.toNat (decide (s.cfg.tThresh < s.tcount)),
          bitidx := t.bitidx, tcount := 0, phase := .bitLow }) ∧
    (s.phase = .bitHigh → pin s = .high → s.cfg.tBit < s.tcount →
      runEvent .engine s = .next { afterPin s with errk := .timeout, phase := .failed }) ∧
    (s.phase = .bitHigh → pin s = .high → s.tcount ≤ s.cfg.tBit →
      runEvent .engine s = .next (afterPin s))

/-- 42_bitframe.md R192: the strict comparison, with its two boundary values. -/
def Obligations.PulseDecodingIsStrict : Prop :=
  ∀ (c : Config) (width : Nat),
    (decodeBit c width = true ↔ c.tThresh < width) ∧
    decodeBit c c.tThresh = false ∧ decodeBit c (c.tThresh + 1) = true

/-- 42_bitframe.md R193: one bit is written and the other 39 are left; the source's 0xAA. -/
def Obligations.PackWritesOneBit : Prop :=
  (∀ (B : Buffer) (i : Nat) (b : Bool), i < 40 →
    ((pack B i b).get (i / 8)).getLsbD (7 - i % 8) = b ∧
    ∀ j, j < 40 → j ≠ i →
      ((pack B i b).get (j / 8)).getLsbD (7 - j % 8) = (B.get (j / 8)).getLsbD (7 - j % 8)) ∧
  (∀ B : Buffer,
    (pack (pack (pack (pack (pack (pack (pack (pack B 0 true) 1 false) 2 true) 3 false)
      4 true) 5 false) 6 true) 7 false).humidityInt = 0xAA#8)

/-- 20_memory.md R61 and R62: read as one number in arrival order, stream bit i is worth 2^(39 - i). -/
def Obligations.FrameIsBigEndian : Prop :=
  ∀ (B : Buffer) (i : Nat), i < 40 →
    B.frame.getLsbD (39 - i) = B.streamBit i ∧
    B.streamBit i = ([B.humidityInt, B.humidityFrac, B.tempInt, B.tempFrac,
      B.checksum].getD (i / 8) 0).getLsbD (7 - i % 8)

/-- 10_state.md R25 with 42_bitframe.md R194, R195: the only changes of STATE, and the agent that
makes each. -/
def Obligations.StateChangesAreTheSpecsTransitions : Prop :=
  ∀ s t : State, step s = .next t → t.phase ≠ s.phase →
    ((nextEvent s).1 = .reset ∧ t.phase = .idle) ∨
    ((nextEvent s).1 = .host 0x80#8 ∧ busy s = false ∧ t.phase = .startLow) ∨
    ((nextEvent s).1 = .engine ∧
      (s.phase, t.phase) ∈ [(.startLow, .startHigh), (.startHigh, .respLow),
        (.respLow, .respHigh), (.respLow, .failed), (.respHigh, .bitLow), (.respHigh, .failed),
        (.bitLow, .bitHigh), (.bitLow, .failed), (.bitHigh, .bitLow), (.bitHigh, .done),
        (.bitHigh, .failed)] ∧
      (t.phase = .done → s.bitidx = 39))

/-- 60_exceptions.md R301 and R309: which failure is recorded where, and that nothing else is
written. -/
def Obligations.FailureIsRecordedOnce : Prop :=
  ∀ s t : State, step s = .next t → s.phase ≠ .failed → t.phase = .failed →
    (nextEvent s).1 = .engine ∧
    ((s.phase = .respLow ∨ s.phase = .respHigh) ∧ t.errk = .noResponse ∧ s.cfg.tResp < s.tcount ∨
      (s.phase = .bitLow ∨ s.phase = .bitHigh) ∧ t.errk = .timeout ∧ s.cfg.tBit < s.tcount) ∧
    (s.phase = .respLow ∨ s.phase = .bitLow → pin (nextEvent s).2 = .low) ∧
    (s.phase = .respHigh ∨ s.phase = .bitHigh → pin (nextEvent s).2 = .high) ∧
    t = { s with errk := t.errk, phase := .failed, drive := t.drive, sched := t.sched,
                 free := t.free }

/-- 10_state.md R20, R21, R23, R24 and R26 to R29: the steps that write each register, and that no step
writes the configuration. -/
def Obligations.OnlyNamedStepsWriteARegister : Prop :=
  ∀ s t : State, step s = .next t → (nextEvent s).1 ≠ .reset →
    t.cfg = s.cfg ∧
    (t.mode ≠ s.mode →
      (busy s = false ∧ ((nextEvent s).1 = .host 0x10#8 ∨ (nextEvent s).1 = .host 0x11#8 ∨
        (nextEvent s).1 = .host 0x80#8)) ∨
      ((nextEvent s).1 = .engine ∧ s.phase = .startHigh ∧ t.mode = .input)) ∧
    (t.latch ≠ s.latch →
      (busy s = false ∧ ((nextEvent s).1 = .host 0x20#8 ∨ (nextEvent s).1 = .host 0x21#8 ∨
        (nextEvent s).1 = .host 0x80#8)) ∨
      ((nextEvent s).1 = .engine ∧ s.phase = .startLow ∧ t.latch = .high)) ∧
    (t.tcount ≠ s.tcount →
      ((nextEvent s).1 = .clock ∧ s.trun = true) ∨
      (((nextEvent s).1 = .host 0x40#8 ∨ (nextEvent s).1 = .host 0x80#8) ∧ busy s = false ∧
        t.tcount = 0) ∨
      ((nextEvent s).1 = .engine ∧ busy s = true ∧ busy t = true ∧ t.phase ≠ s.phase ∧
        t.tcount = 0)) ∧
    (t.trun ≠ s.trun → busy s = false ∧
      ((nextEvent s).1 = .host 0x60#8 ∧ t.trun = false ∨
        (nextEvent s).1 = .host 0x61#8 ∧ t.trun = true)) ∧
    (t.bitidx ≠ s.bitidx →
      ((nextEvent s).1 = .host 0x80#8 ∧ busy s = false) ∨
      ((nextEvent s).1 = .engine ∧ (s.phase = .respHigh ∨ s.phase = .bitHigh))) ∧
    (t.buf ≠ s.buf →
      ((nextEvent s).1 = .host 0x80#8 ∧ busy s = false ∧ t.buf = ⟨0, 0, 0, 0, 0⟩) ∨
      ((nextEvent s).1 = .engine ∧ s.phase = .bitHigh)) ∧
    (t.errk ≠ s.errk →
      ((nextEvent s).1 = .host 0x80#8 ∧ busy s = false ∧ t.errk = .none) ∨
      ((nextEvent s).1 = .engine ∧ s.phase ≠ .failed ∧ t.phase = .failed)) ∧
    (t.fault ≠ s.fault ∨ t.fcause ≠ s.fcause →
      (∃ w, (nextEvent s).1 = .host w) ∧ s.fault = false ∧ t.fault = true)

/-! ### Whole runs -/

/-- Every step keeps the invariant. -/
def Obligations.StepKeepsTheInvariant : Prop :=
  ∀ s t : State, s.Inv → step s = .next t → t.Inv

/-- The reset state meets the invariant. The clauses about BITIDX rest on the model's choice of its
reset value (notes/assumptions/2.md). -/
def Obligations.ResetMeetsTheInvariant : Prop := State.reset.Inv

/-- 20_memory.md R64: while a Reading stays ready, over any number of steps of any agents, the result
window keeps its four bytes. -/
def Obligations.ReadyReadingIsAtomic : Prop :=
  ∀ (k : Nat) (s t : State),
    (∀ j ≤ k, ∃ u, Host.Core.run Sys2Proof.core j s = .next u ∧ statusClass u = .ready) →
    Host.Core.run Sys2Proof.core k s = .next t →
    t.buf = s.buf ∧ ∀ i, exec (.rdbyte i) t = .next { t with resp := some (.byte (window s.buf i)) }

/-- 41_handshake.md R166: an engine step that writes LATCH finds MODE = 0, and along any schedule from
START the line is an input only after it was driven low for `a` steps that hold T_START_LOW ticks and
then driven high for `b` steps that hold T_START_HIGH ticks. -/
def Obligations.NoModeViolation : Prop :=
  (∀ s t : State, s.Inv → runEvent .engine s = .next t → t.latch ≠ s.latch → s.mode = .output) ∧
  (∀ (s t u : State) (es : List Event) (k : Nat), s.cfg.wf = true → busy s = false →
    exec .start s = .next t → .reset ∉ es → k ≤ es.length →
    Host.Core.run Sys2Proof.core k { t with sched := es } = .next u →
    (u.latch = .high → s.cfg.tStartLow ≤ ticks (es.take k)) ∧
    (u.mode = .input → ∃ a b, a + b ≤ k ∧ s.cfg.tStartLow ≤ ticks (es.take a) ∧
      s.cfg.tStartHigh ≤ ticks ((es.drop a).take b) ∧
      ∀ j v, j ≤ a + b → Host.Core.run Sys2Proof.core j { t with sched := es } = .next v →
        v.mode = .output ∧ (j ≤ a → v.latch = .low) ∧ (a < j → v.latch = .high)))

/-- 42_bitframe.md R196, over schedules in fair rounds: from START with the timer running, whatever
the sensor and the host do, the cycle has ended once more rounds than the bound have passed, and it
has an outcome. -/
def Obligations.CycleEndsWithinItsBound : Prop :=
  ∀ (s t : State) (rounds : List (List Event)), s.cfg.wf = true → s.trun = true →
    busy s = false → exec .start s = .next t → (∀ r ∈ rounds, fairRound r) →
    cycleBound s.cfg < rounds.length →
    ∃ k u, k ≤ rounds.flatten.length ∧
      Host.Core.run Sys2Proof.core k { t with sched := rounds.flatten } = .next u ∧
      u.ended ∧ cycleResult u ≠ .noResult

/-- 70_reset_and_hazards.md R345: a cycle started with the timer stopped hangs under every schedule,
and along any schedule without a reset it stays in StartLow. -/
def Obligations.StoppedTimerHangsTheCycle : Prop :=
  ∀ (s t : State) (es : List Event), s.cfg.wf = true → s.trun = false → busy s = false →
    exec .start s = .next t →
    State.hangs { t with sched := es } ∧
    (∀ (u : State) (k : Nat), .reset ∉ es → k ≤ es.length →
      Host.Core.run Sys2Proof.core k { t with sched := es } = .next u →
      u.phase = .startLow ∧ u.tcount = 0 ∧ u.trun = false)

/-- 70_reset_and_hazards.md R352 and R346: in a good run no host word breaks the contract: each is a
legal command, while busy it is RDSTAT or RDFAULT, in Input mode no WRITE, and outside Ready no
RDBYTE. -/
def Obligations.GoodRunBreaksNoContract : Prop :=
  ∀ (s : State) (k : Nat), s.goodRun k →
    ∀ (j : Nat) (t : State) (w : Byte), j < k →
      Host.Core.run Sys2Proof.core j s = .next t → (nextEvent t).1 = .host w →
      (∃ i, decode w = .ok i) ∧
      (busy t = true → w ∈ [0x90#8, 0xB0#8]) ∧
      (t.mode = .input → w ∉ [0x20#8, 0x21#8]) ∧
      (statusClass t ≠ .ready → w ∉ [0xA0#8, 0xA1#8, 0xA2#8, 0xA3#8])

/-- 10_state.md R36, "Idempotent retry": two cycles started with the same configuration, timer run bit
and inputs go through the same states, whatever an earlier cycle left, but for FAULT, FCAUSE and the
last response. -/
def Obligations.CycleForgetsEarlierCycles : Prop :=
  ∀ s t s₁ t₁ : State, s.cfg = t.cfg → s.trun = t.trun → s.drive = t.drive → s.sched = t.sched →
    s.free = t.free → s.cfg.wf = true → busy s = false → busy t = false →
    exec .start s = .next s₁ → exec .start t = .next t₁ →
    ∀ k, ∃ u v, Host.Core.run Sys2Proof.core k s₁ = .next u ∧
      Host.Core.run Sys2Proof.core k t₁ = .next v ∧ u.sameCycle v ∧ cycleResult u = cycleResult v

/-- 42_bitframe.md R190 to R193 under the lockstep schedule of 95_test_vectors.md section 0: from
RespLow, a sensor whose runs stay within the bounds has its 40 high runs decoded, each to whether it
is longer than T_THRESH, and packed in arrival order. -/
def Obligations.LockstepFrameIsDecoded : Prop :=
  ∀ (s : State) (respLow respHigh : Nat) (bits : List (Nat × Nat)) (rest : List Event),
    s.cfg.wf = true → s.phase = .respLow → s.mode = .input → s.trun = true →
    s.tcount + respLow ≤ s.cfg.tResp + 1 → 1 ≤ respHigh → respHigh ≤ s.cfg.tResp + 1 →
    bits.length = 40 →
    (∀ b ∈ bits, 1 ≤ b.1 ∧ b.1 ≤ s.cfg.tBit + 1 ∧ 1 ≤ b.2 ∧ b.2 ≤ s.cfg.tBit + 1) →
    s.sched = lockstep (frameScript respLow respHigh bits) ++ rest →
    ∃ k u, Host.Core.run Sys2Proof.core k s = .next u ∧ u.phase = .done ∧
      u.sched = .clock :: rest ∧
      ∀ (i : Nat) (b : Nat × Nat), bits[i]? = some b →
        u.buf.streamBit i = decide (s.cfg.tThresh < b.2)

/-! ### The host's sequences -/

/-- 30_encoding.md R98: WAITIDLE, CYCLE, HOLD and POLLWHILE, one command at a time. -/
def Obligations.HostSequencesExpand : Prop :=
  ∀ s : State,
    HostSeq.waitIdle.issue s =
      (if busy s then .waitIdle else .exit none,
        { s with resp := some (.status (statusWord s)) }) ∧
    (∃ t, exec .start s = .next t ∧ HostSeq.cycle.issue s = (.cycleWait, t)) ∧
    HostSeq.cycleWait.issue s =
      (if busy s then .cycleWait else .cycleRead,
        { s with resp := some (.status (statusWord s)) }) ∧
    HostSeq.cycleRead.issue s =
      (.exit (some (statusWord s)), { s with resp := some (.status (statusWord s)) }) ∧
    (∀ n, busy s = false →
      (HostSeq.hold n).issue s = (.holdLoop n, { s with tcount := 0, resp := none }) ∧
      (HostSeq.holdLoop n).issue s =
        (if n ≤ s.tcount then .exit none else .holdLoop n,
          { s with resp := some (.count s.tcount) })) ∧
    (∀ l n, busy s = false →
      (HostSeq.poll l n).issue s = (.pollPin l n, { s with tcount := 0, resp := none }) ∧
      (HostSeq.pollPin l n).issue s =
        (if pin s ≠ l then .exit none else .pollCount l n,
          { afterPin s with resp := some (.level (pin s)) }) ∧
      (HostSeq.pollCount l n).issue s =
        (if n < s.tcount then .branch else .pollPin l n,
          { s with resp := some (.count s.tcount) }))

/-- 44_host.md R245, the call that CYCLE makes: its steps up to the last RDSTAT are CYCLE's; from there
CLASS and ERR give the outcome, and with CLASS = Ready RDBYTE 0 to 3, each in a step of its own in any
states whose reading is still the same, give the Reading; the outcome is the validated one. That the
outcome is NoResult where the last STATUS is Idle or Busy is the model's choice
(notes/assumptions/12.md). -/
def Obligations.CallYieldsTheOutcome : Prop :=
  (∀ q ∈ [HostSeq.cycle, .cycleWait], ∀ s, q.issueCall s = q.issue s) ∧
  (∀ s : State,
    (HostSeq.cycleRead.issueCall s).2 = { s with resp := some (.status (statusWord s)) } ∧
    (statusClass s = .ready → (HostSeq.cycleRead.issueCall s).1 = .takeHint) ∧
    (statusClass s ≠ .ready →
      (HostSeq.cycleRead.issueCall s).1 = .outcome (cycleResult s))) ∧
  (∀ s : State, statusClass s = .ready →
    HostSeq.takeHint.issueCall s =
      (.takeHfrac s.buf.humidityInt, { s with resp := some (.byte s.buf.humidityInt) }) ∧
    (∀ h, (HostSeq.takeHfrac h).issueCall s =
      (.takeTint h s.buf.humidityFrac, { s with resp := some (.byte s.buf.humidityFrac) })) ∧
    (∀ h f, (HostSeq.takeTint h f).issueCall s =
      (.takeTfrac h f s.buf.tempInt, { s with resp := some (.byte s.buf.tempInt) })) ∧
    ((HostSeq.takeTfrac s.buf.humidityInt s.buf.humidityFrac s.buf.tempInt).issueCall s =
      (.outcome (cycleResult s), { s with resp := some (.byte s.buf.tempFrac) }))) ∧
  (∀ s : State, s.Inv → s.ended →
    (∃ h f t c, cycleResult s = .reading h f t c) ∨ ∃ k, cycleResult s = .error k)
end

