-- ==== Sys2Proof/Laws/Decode.lean ====
section
/-! SUPPORT. The opcode map: no two rows overlap (30_encoding.md R92). -/

namespace Sys2Proof

/-- A row whose match has no bit outside its mask hits its own match. -/
theorem opcodeMap_pat_in_mask : ∀ r ∈ opcodeMap, r.pat &&& r.mask = r.pat := by decide

/-- "No two rows overlap": any two rows differ in a bit that both masks fix. -/
theorem opcodeMap_no_overlap :
    opcodeMap.Pairwise fun a b => a.pat &&& b.mask &&& a.mask ≠ b.pat &&& a.mask := by decide

end Sys2Proof
end

