-- ==== Sys2Proof/Laws/State.lean ====
section
/-! SUPPORT. One lemma for each field under each named update of State, so that no proof unfolds a
record update. -/

namespace Sys2Proof.Machine

/-! ### raiseFault -/

@[simp] theorem raiseFault_cfg (c : FCause) (s : State) : (raiseFault c s).cfg = s.cfg := rfl
@[simp] theorem raiseFault_mode (c : FCause) (s : State) : (raiseFault c s).mode = s.mode := rfl
@[simp] theorem raiseFault_latch (c : FCause) (s : State) : (raiseFault c s).latch = s.latch := rfl
@[simp] theorem raiseFault_tcount (c : FCause) (s : State) : (raiseFault c s).tcount = s.tcount := rfl
@[simp] theorem raiseFault_trun (c : FCause) (s : State) : (raiseFault c s).trun = s.trun := rfl
@[simp] theorem raiseFault_phase (c : FCause) (s : State) : (raiseFault c s).phase = s.phase := rfl
@[simp] theorem raiseFault_bitidx (c : FCause) (s : State) : (raiseFault c s).bitidx = s.bitidx := rfl
@[simp] theorem raiseFault_buf (c : FCause) (s : State) : (raiseFault c s).buf = s.buf := rfl
@[simp] theorem raiseFault_errk (c : FCause) (s : State) : (raiseFault c s).errk = s.errk := rfl
@[simp] theorem raiseFault_fault (c : FCause) (s : State) : (raiseFault c s).fault = true := rfl
@[simp] theorem raiseFault_fcause (c : FCause) (s : State) : (raiseFault c s).fcause = if s.fault then s.fcause else c := rfl
@[simp] theorem raiseFault_resp (c : FCause) (s : State) : (raiseFault c s).resp = none := rfl
@[simp] theorem raiseFault_drive (c : FCause) (s : State) : (raiseFault c s).drive = s.drive := rfl
@[simp] theorem raiseFault_sched (c : FCause) (s : State) : (raiseFault c s).sched = s.sched := rfl
@[simp] theorem raiseFault_free (c : FCause) (s : State) : (raiseFault c s).free = s.free := rfl

/-! ### failCycle -/

@[simp] theorem failCycle_cfg (k : Errk) (s : State) : (failCycle k s).cfg = s.cfg := rfl
@[simp] theorem failCycle_mode (k : Errk) (s : State) : (failCycle k s).mode = s.mode := rfl
@[simp] theorem failCycle_latch (k : Errk) (s : State) : (failCycle k s).latch = s.latch := rfl
@[simp] theorem failCycle_tcount (k : Errk) (s : State) : (failCycle k s).tcount = s.tcount := rfl
@[simp] theorem failCycle_trun (k : Errk) (s : State) : (failCycle k s).trun = s.trun := rfl
@[simp] theorem failCycle_phase (k : Errk) (s : State) : (failCycle k s).phase = .failed := rfl
@[simp] theorem failCycle_bitidx (k : Errk) (s : State) : (failCycle k s).bitidx = s.bitidx := rfl
@[simp] theorem failCycle_buf (k : Errk) (s : State) : (failCycle k s).buf = s.buf := rfl
@[simp] theorem failCycle_errk (k : Errk) (s : State) : (failCycle k s).errk = k := rfl
@[simp] theorem failCycle_fault (k : Errk) (s : State) : (failCycle k s).fault = s.fault := rfl
@[simp] theorem failCycle_fcause (k : Errk) (s : State) : (failCycle k s).fcause = s.fcause := rfl
@[simp] theorem failCycle_resp (k : Errk) (s : State) : (failCycle k s).resp = s.resp := rfl
@[simp] theorem failCycle_drive (k : Errk) (s : State) : (failCycle k s).drive = s.drive := rfl
@[simp] theorem failCycle_sched (k : Errk) (s : State) : (failCycle k s).sched = s.sched := rfl
@[simp] theorem failCycle_free (k : Errk) (s : State) : (failCycle k s).free = s.free := rfl

/-! ### answer -/

@[simp] theorem answer_cfg (r : Response) (s : State) : (answer r s).cfg = s.cfg := rfl
@[simp] theorem answer_mode (r : Response) (s : State) : (answer r s).mode = s.mode := rfl
@[simp] theorem answer_latch (r : Response) (s : State) : (answer r s).latch = s.latch := rfl
@[simp] theorem answer_tcount (r : Response) (s : State) : (answer r s).tcount = s.tcount := rfl
@[simp] theorem answer_trun (r : Response) (s : State) : (answer r s).trun = s.trun := rfl
@[simp] theorem answer_phase (r : Response) (s : State) : (answer r s).phase = s.phase := rfl
@[simp] theorem answer_bitidx (r : Response) (s : State) : (answer r s).bitidx = s.bitidx := rfl
@[simp] theorem answer_buf (r : Response) (s : State) : (answer r s).buf = s.buf := rfl
@[simp] theorem answer_errk (r : Response) (s : State) : (answer r s).errk = s.errk := rfl
@[simp] theorem answer_fault (r : Response) (s : State) : (answer r s).fault = s.fault := rfl
@[simp] theorem answer_fcause (r : Response) (s : State) : (answer r s).fcause = s.fcause := rfl
@[simp] theorem answer_resp (r : Response) (s : State) : (answer r s).resp = some r := rfl
@[simp] theorem answer_drive (r : Response) (s : State) : (answer r s).drive = s.drive := rfl
@[simp] theorem answer_sched (r : Response) (s : State) : (answer r s).sched = s.sched := rfl
@[simp] theorem answer_free (r : Response) (s : State) : (answer r s).free = s.free := rfl

/-! ### silent -/

@[simp] theorem silent_cfg (s : State) : (silent s).cfg = s.cfg := rfl
@[simp] theorem silent_mode (s : State) : (silent s).mode = s.mode := rfl
@[simp] theorem silent_latch (s : State) : (silent s).latch = s.latch := rfl
@[simp] theorem silent_tcount (s : State) : (silent s).tcount = s.tcount := rfl
@[simp] theorem silent_trun (s : State) : (silent s).trun = s.trun := rfl
@[simp] theorem silent_phase (s : State) : (silent s).phase = s.phase := rfl
@[simp] theorem silent_bitidx (s : State) : (silent s).bitidx = s.bitidx := rfl
@[simp] theorem silent_buf (s : State) : (silent s).buf = s.buf := rfl
@[simp] theorem silent_errk (s : State) : (silent s).errk = s.errk := rfl
@[simp] theorem silent_fault (s : State) : (silent s).fault = s.fault := rfl
@[simp] theorem silent_fcause (s : State) : (silent s).fcause = s.fcause := rfl
@[simp] theorem silent_resp (s : State) : (silent s).resp = none := rfl
@[simp] theorem silent_drive (s : State) : (silent s).drive = s.drive := rfl
@[simp] theorem silent_sched (s : State) : (silent s).sched = s.sched := rfl
@[simp] theorem silent_free (s : State) : (silent s).free = s.free := rfl

/-! ### beginCycle -/

@[simp] theorem beginCycle_cfg (s : State) : (beginCycle s).cfg = s.cfg := rfl
@[simp] theorem beginCycle_mode (s : State) : (beginCycle s).mode = .output := rfl
@[simp] theorem beginCycle_latch (s : State) : (beginCycle s).latch = .low := rfl
@[simp] theorem beginCycle_tcount (s : State) : (beginCycle s).tcount = 0 := rfl
@[simp] theorem beginCycle_trun (s : State) : (beginCycle s).trun = s.trun := rfl
@[simp] theorem beginCycle_phase (s : State) : (beginCycle s).phase = .startLow := rfl
@[simp] theorem beginCycle_bitidx (s : State) : (beginCycle s).bitidx = 0 := rfl
@[simp] theorem beginCycle_buf (s : State) : (beginCycle s).buf = Buffer.zero := rfl
@[simp] theorem beginCycle_errk (s : State) : (beginCycle s).errk = .none := rfl
@[simp] theorem beginCycle_fault (s : State) : (beginCycle s).fault = s.fault := rfl
@[simp] theorem beginCycle_fcause (s : State) : (beginCycle s).fcause = s.fcause := rfl
@[simp] theorem beginCycle_resp (s : State) : (beginCycle s).resp = s.resp := rfl
@[simp] theorem beginCycle_drive (s : State) : (beginCycle s).drive = s.drive := rfl
@[simp] theorem beginCycle_sched (s : State) : (beginCycle s).sched = s.sched := rfl
@[simp] theorem beginCycle_free (s : State) : (beginCycle s).free = s.free := rfl

/-! ### afterPin -/

@[simp] theorem afterPin_cfg (s : State) : (afterPin s).cfg = s.cfg := by
  unfold afterPin; split <;> [rfl; (split <;> rfl)]
@[simp] theorem afterPin_mode (s : State) : (afterPin s).mode = s.mode := by
  unfold afterPin; split <;> [rfl; (split <;> rfl)]
@[simp] theorem afterPin_latch (s : State) : (afterPin s).latch = s.latch := by
  unfold afterPin; split <;> [rfl; (split <;> rfl)]
@[simp] theorem afterPin_tcount (s : State) : (afterPin s).tcount = s.tcount := by
  unfold afterPin; split <;> [rfl; (split <;> rfl)]
@[simp] theorem afterPin_trun (s : State) : (afterPin s).trun = s.trun := by
  unfold afterPin; split <;> [rfl; (split <;> rfl)]
@[simp] theorem afterPin_phase (s : State) : (afterPin s).phase = s.phase := by
  unfold afterPin; split <;> [rfl; (split <;> rfl)]
@[simp] theorem afterPin_bitidx (s : State) : (afterPin s).bitidx = s.bitidx := by
  unfold afterPin; split <;> [rfl; (split <;> rfl)]
@[simp] theorem afterPin_buf (s : State) : (afterPin s).buf = s.buf := by
  unfold afterPin; split <;> [rfl; (split <;> rfl)]
@[simp] theorem afterPin_errk (s : State) : (afterPin s).errk = s.errk := by
  unfold afterPin; split <;> [rfl; (split <;> rfl)]
@[simp] theorem afterPin_fault (s : State) : (afterPin s).fault = s.fault := by
  unfold afterPin; split <;> [rfl; (split <;> rfl)]
@[simp] theorem afterPin_fcause (s : State) : (afterPin s).fcause = s.fcause := by
  unfold afterPin; split <;> [rfl; (split <;> rfl)]
@[simp] theorem afterPin_resp (s : State) : (afterPin s).resp = s.resp := by
  unfold afterPin; split <;> [rfl; (split <;> rfl)]
@[simp] theorem afterPin_sched (s : State) : (afterPin s).sched = s.sched := by
  unfold afterPin; split <;> [rfl; (split <;> rfl)]

/-! ### clockStep -/

@[simp] theorem clockStep_cfg (s : State) : (clockStep s).cfg = s.cfg := by
  unfold clockStep; split <;> rfl
@[simp] theorem clockStep_mode (s : State) : (clockStep s).mode = s.mode := by
  unfold clockStep; split <;> rfl
@[simp] theorem clockStep_latch (s : State) : (clockStep s).latch = s.latch := by
  unfold clockStep; split <;> rfl
@[simp] theorem clockStep_tcount (s : State) : (clockStep s).tcount = if s.trun then min (s.tcount + 1) (tcountMax s.cfg) else s.tcount := by
  unfold clockStep; split <;> rfl
@[simp] theorem clockStep_trun (s : State) : (clockStep s).trun = s.trun := by
  unfold clockStep; split <;> rfl
@[simp] theorem clockStep_phase (s : State) : (clockStep s).phase = s.phase := by
  unfold clockStep; split <;> rfl
@[simp] theorem clockStep_bitidx (s : State) : (clockStep s).bitidx = s.bitidx := by
  unfold clockStep; split <;> rfl
@[simp] theorem clockStep_buf (s : State) : (clockStep s).buf = s.buf := by
  unfold clockStep; split <;> rfl
@[simp] theorem clockStep_errk (s : State) : (clockStep s).errk = s.errk := by
  unfold clockStep; split <;> rfl
@[simp] theorem clockStep_fault (s : State) : (clockStep s).fault = s.fault := by
  unfold clockStep; split <;> rfl
@[simp] theorem clockStep_fcause (s : State) : (clockStep s).fcause = s.fcause := by
  unfold clockStep; split <;> rfl
@[simp] theorem clockStep_resp (s : State) : (clockStep s).resp = s.resp := by
  unfold clockStep; split <;> rfl
@[simp] theorem clockStep_drive (s : State) : (clockStep s).drive = s.drive := by
  unfold clockStep; split <;> rfl
@[simp] theorem clockStep_sched (s : State) : (clockStep s).sched = s.sched := by
  unfold clockStep; split <;> rfl
@[simp] theorem clockStep_free (s : State) : (clockStep s).free = s.free := by
  unfold clockStep; split <;> rfl

/-! ### sensorStep -/

@[simp] theorem sensorStep_cfg (l : Level) (s : State) : (sensorStep l s).cfg = s.cfg := by
  unfold sensorStep; split <;> rfl
@[simp] theorem sensorStep_mode (l : Level) (s : State) : (sensorStep l s).mode = s.mode := by
  unfold sensorStep; split <;> rfl
@[simp] theorem sensorStep_latch (l : Level) (s : State) : (sensorStep l s).latch = s.latch := by
  unfold sensorStep; split <;> rfl
@[simp] theorem sensorStep_tcount (l : Level) (s : State) : (sensorStep l s).tcount = s.tcount := by
  unfold sensorStep; split <;> rfl
@[simp] theorem sensorStep_trun (l : Level) (s : State) : (sensorStep l s).trun = s.trun := by
  unfold sensorStep; split <;> rfl
@[simp] theorem sensorStep_phase (l : Level) (s : State) : (sensorStep l s).phase = s.phase := by
  unfold sensorStep; split <;> rfl
@[simp] theorem sensorStep_bitidx (l : Level) (s : State) : (sensorStep l s).bitidx = s.bitidx := by
  unfold sensorStep; split <;> rfl
@[simp] theorem sensorStep_buf (l : Level) (s : State) : (sensorStep l s).buf = s.buf := by
  unfold sensorStep; split <;> rfl
@[simp] theorem sensorStep_errk (l : Level) (s : State) : (sensorStep l s).errk = s.errk := by
  unfold sensorStep; split <;> rfl
@[simp] theorem sensorStep_fault (l : Level) (s : State) : (sensorStep l s).fault = s.fault := by
  unfold sensorStep; split <;> rfl
@[simp] theorem sensorStep_fcause (l : Level) (s : State) : (sensorStep l s).fcause = s.fcause := by
  unfold sensorStep; split <;> rfl
@[simp] theorem sensorStep_resp (l : Level) (s : State) : (sensorStep l s).resp = s.resp := by
  unfold sensorStep; split <;> rfl
@[simp] theorem sensorStep_sched (l : Level) (s : State) : (sensorStep l s).sched = s.sched := by
  unfold sensorStep; split <;> rfl
@[simp] theorem sensorStep_free (l : Level) (s : State) : (sensorStep l s).free = s.free := by
  unfold sensorStep; split <;> rfl

/-! ### resetStep -/

@[simp] theorem resetStep_cfg (s : State) : (resetStep s).cfg = s.cfg := rfl
@[simp] theorem resetStep_mode (s : State) : (resetStep s).mode = .input := rfl
@[simp] theorem resetStep_latch (s : State) : (resetStep s).latch = .high := rfl
@[simp] theorem resetStep_tcount (s : State) : (resetStep s).tcount = 0 := rfl
@[simp] theorem resetStep_trun (s : State) : (resetStep s).trun = false := rfl
@[simp] theorem resetStep_phase (s : State) : (resetStep s).phase = .idle := rfl
@[simp] theorem resetStep_bitidx (s : State) : (resetStep s).bitidx = 0 := rfl
@[simp] theorem resetStep_buf (s : State) : (resetStep s).buf = Buffer.zero := rfl
@[simp] theorem resetStep_errk (s : State) : (resetStep s).errk = .none := rfl
@[simp] theorem resetStep_fault (s : State) : (resetStep s).fault = false := rfl
@[simp] theorem resetStep_fcause (s : State) : (resetStep s).fcause = .none := rfl
@[simp] theorem resetStep_resp (s : State) : (resetStep s).resp = none := rfl
@[simp] theorem resetStep_drive (s : State) : (resetStep s).drive = s.drive := rfl
@[simp] theorem resetStep_sched (s : State) : (resetStep s).sched = s.sched := rfl
@[simp] theorem resetStep_free (s : State) : (resetStep s).free = s.free := rfl

/-! ### issueNext -/

@[simp] theorem issueNext_cfg (w : Byte) (s : State) : (issueNext w s).cfg = s.cfg := rfl
@[simp] theorem issueNext_mode (w : Byte) (s : State) : (issueNext w s).mode = s.mode := rfl
@[simp] theorem issueNext_latch (w : Byte) (s : State) : (issueNext w s).latch = s.latch := rfl
@[simp] theorem issueNext_tcount (w : Byte) (s : State) : (issueNext w s).tcount = s.tcount := rfl
@[simp] theorem issueNext_trun (w : Byte) (s : State) : (issueNext w s).trun = s.trun := rfl
@[simp] theorem issueNext_phase (w : Byte) (s : State) : (issueNext w s).phase = s.phase := rfl
@[simp] theorem issueNext_bitidx (w : Byte) (s : State) : (issueNext w s).bitidx = s.bitidx := rfl
@[simp] theorem issueNext_buf (w : Byte) (s : State) : (issueNext w s).buf = s.buf := rfl
@[simp] theorem issueNext_errk (w : Byte) (s : State) : (issueNext w s).errk = s.errk := rfl
@[simp] theorem issueNext_fault (w : Byte) (s : State) : (issueNext w s).fault = s.fault := rfl
@[simp] theorem issueNext_fcause (w : Byte) (s : State) : (issueNext w s).fcause = s.fcause := rfl
@[simp] theorem issueNext_resp (w : Byte) (s : State) : (issueNext w s).resp = s.resp := rfl
@[simp] theorem issueNext_drive (w : Byte) (s : State) : (issueNext w s).drive = s.drive := rfl
@[simp] theorem issueNext_sched (w : Byte) (s : State) : (issueNext w s).sched = .host w :: s.sched := rfl
@[simp] theorem issueNext_free (w : Byte) (s : State) : (issueNext w s).free = s.free := rfl

end Sys2Proof.Machine
end

