-- ==== Sys2Proof/Laws/Ops.lean ====
section
/-! SUPPORT. What each shared operation can do, said once, for proofs to cite. -/

namespace Sys2Proof.Machine

/-! ### The pin -/

theorem pin_output {s : State} (h : s.mode = .output) : pin s = s.latch := by
  simp [pin, h]

theorem pin_input_set {s : State} {l : Level} (h : s.mode = .input) (hd : s.drive = some l) :
    pin s = l := by
  simp [pin, h, hd]

theorem afterPin_output {s : State} (h : s.mode = .output) : afterPin s = s := by
  simp [afterPin, h]

theorem afterPin_input_set {s : State} {l : Level} (h : s.mode = .input)
    (hd : s.drive = some l) : afterPin s = { s with drive := none } := by
  simp [afterPin, h, hd]

theorem afterPin_input_free {s : State} (h : s.mode = .input) (hd : s.drive = none) :
    afterPin s = { s with free := s.free + 1 } := by
  simp [afterPin, h, hd]

/-- Reading the pin uses up at most one input of the sensor or one free value. -/
theorem afterPin_cases (s : State) :
    afterPin s = s ∨ afterPin s = { s with drive := none } ∨
      afterPin s = { s with free := s.free + 1 } := by
  unfold afterPin
  split
  · exact .inl rfl
  · split
    · exact .inr (.inl rfl)
    · exact .inr (.inr rfl)

/-- Reading the pin touches the sensor's inputs alone. -/
theorem afterPin_eq (s : State) :
    afterPin s = { s with drive := (afterPin s).drive, free := (afterPin s).free } := by
  rcases afterPin_cases s with h | h | h <;> rw [h]

@[simp] theorem busy_afterPin (s : State) : busy (afterPin s) = busy s := by
  simp [busy]

/-! ### Faults, ownership and the answer -/

@[simp] theorem busy_raiseFault (c : FCause) (s : State) : busy (raiseFault c s) = busy s := rfl

@[simp] theorem busy_answer (r : Response) (s : State) : busy (answer r s) = busy s := rfl

@[simp] theorem busy_silent (s : State) : busy (silent s) = busy s := rfl

/-- The first fault is recorded. -/
theorem raiseFault_fcause_first {c : FCause} {s : State} (h : s.fault = false) :
    (raiseFault c s).fcause = c := by
  simp [h]

/-- A later fault keeps the first cause. -/
theorem raiseFault_fcause_later {c : FCause} {s : State} (h : s.fault = true) :
    (raiseFault c s).fcause = s.fcause := by
  simp [h]

theorem lineCommand_busy {f : State → State} {s : State} (h : busy s = true) :
    lineCommand f s = .next (raiseFault .lineOwnedByDriver s) := by
  simp [lineCommand, h]

theorem lineCommand_idle {f : State → State} {s : State} (h : busy s = false) :
    lineCommand f s = .next (f s) := by
  simp [lineCommand, h]

/-! ### The schedule -/

theorem nextEvent_cons {s : State} {e : Event} {es : List Event} (h : s.sched = e :: es) :
    nextEvent s = (e, { s with sched := es }) := by
  simp [nextEvent, h]

theorem nextEvent_nil {s : State} (h : s.sched = []) :
    nextEvent s = (Config.freeEvent s.free, { s with free := s.free + 1 }) := by
  simp [nextEvent, h]

/-- Taking the next step off the schedule touches no register. -/
theorem nextEvent_cases (s : State) :
    (∃ e es, s.sched = e :: es ∧ nextEvent s = (e, { s with sched := es })) ∨
      (s.sched = [] ∧ nextEvent s = (Config.freeEvent s.free, { s with free := s.free + 1 })) := by
  by_cases h : s.sched = []
  · exact .inr ⟨h, nextEvent_nil h⟩
  · obtain ⟨e, es, h⟩ := List.exists_cons_of_ne_nil h
    exact .inl ⟨e, es, h, nextEvent_cons h⟩

theorem runEvent_host_ok {w : Byte} {i : Instr} {s : State} (h : decode w = .ok i) :
    runEvent (.host w) s = exec i s := by
  simp [runEvent, hostStep, h]

theorem runEvent_host_illegal {w : Byte} {r : Reject} {s : State} (h : decode w = .error r) :
    runEvent (.host w) s = .next (raiseFault .illegalCommand s) := by
  simp [runEvent, hostStep, h, illegalCommand]

/-! ### The engine's step -/

theorem engineStep_quiescent {s : State} (h : busy s = false) : engineStep s = s := by
  simp [engineStep, h]

theorem engineStep_busy {s : State} (h : busy s = true) :
    engineStep s = stateRule (pin s) s.tcount (afterPin s) := by
  simp [engineStep, h]

/-! ### The data buffer -/

@[simp] theorem Buffer.get_zero (k : Nat) : Buffer.zero.get k = 0 := by
  unfold Buffer.get Buffer.zero
  split <;> rfl

theorem Buffer.get_set_same (B : Buffer) {k : Nat} (h : k < 5) (v : Byte) :
    (B.set k v).get k = v := by
  match k, h with
  | 0, _ | 1, _ | 2, _ | 3, _ | 4, _ => rfl

theorem Buffer.get_set_other (B : Buffer) {j k : Nat} (h : j ≠ k) (v : Byte) :
    (B.set k v).get j = B.get j := by
  match k with
  | 0 | 1 | 2 | 3 | 4 =>
    match j with
    | 0 | 1 | 2 | 3 | 4 | j + 5 => first | rfl | exact absurd rfl h
  | k + 5 => rfl

@[simp] theorem Buffer.streamBit_zero (i : Nat) : Buffer.zero.streamBit i = false := by
  simp [Buffer.streamBit]

end Sys2Proof.Machine
end

