-- ==== Sys2Proof/Laws/Exec.lean ====
section
/-! SUPPORT. Each meaning as one equation over the shared operations, true by unfolding, and the
small facts of the flags, so that proofs cite these and unfold no meaning. -/

namespace Sys2Proof.Machine

/-! ### The line commands -/

theorem exec_setmode (m : Mode) (s : State) : exec (.setmode m) s =
    .next (if busy s then raiseFault .lineOwnedByDriver s else silent { s with mode := m }) := rfl

theorem exec_write (v : Level) (s : State) : exec (.write v) s =
    .next (if busy s then raiseFault .lineOwnedByDriver s
      else match s.mode with
        | .input => raiseFault .writeInInputMode s
        | .output => silent { s with latch := v }) := rfl

theorem exec_read (s : State) : exec .read s =
    .next (if busy s then raiseFault .lineOwnedByDriver s
      else answer (.level (pin s)) (afterPin s)) := rfl

theorem exec_rsttmr (s : State) : exec .rsttmr s =
    .next (if busy s then raiseFault .lineOwnedByDriver s else silent { s with tcount := 0 }) := rfl

theorem exec_elapsed (s : State) : exec .elapsed s =
    .next (if busy s then raiseFault .lineOwnedByDriver s else answer (.count s.tcount) s) := rfl

theorem exec_tmrctl (r : Bool) (s : State) : exec (.tmrctl r) s =
    .next (if busy s then raiseFault .lineOwnedByDriver s else silent { s with trun := r }) := rfl

/-! ### START and the result commands -/

theorem exec_start (s : State) : exec .start s =
    .next (if busy s then raiseFault .startWhileBusy s else silent (beginCycle s)) := rfl

theorem exec_rdstat (s : State) : exec .rdstat s =
    .next (answer (.status (statusWord s)) s) := rfl

theorem exec_rdbyte (k : BitVec 2) (s : State) : exec (.rdbyte k) s =
    .next (if statusClass s = .ready then answer (.byte (window s.buf k)) s
      else raiseFault .noReading s) := rfl

theorem exec_rdfault (s : State) : exec .rdfault s = .next (answer (.cause s.fcause.code) s) := rfl

/-! ### Flags -/

/-- A Reading is ready in Done alone. -/
theorem ready_iff {s : State} :
    statusClass s = .ready ↔ s.phase = .done ∧ checksumOk s.buf = true := by
  unfold statusClass
  cases s.phase <;> simp

theorem checksumOk_iff {B : Buffer} : checksumOk B = true ↔ expectedChecksum B = B.checksum := by
  simp [checksumOk]

/-- The three states in which the engine has no step. -/
theorem busy_eq_false_iff {s : State} :
    busy s = false ↔ s.phase = .idle ∨ s.phase = .done ∨ s.phase = .failed := by
  unfold busy
  cases s.phase <;> simp

@[simp] theorem statusClass_raiseFault (c : FCause) (s : State) :
    statusClass (raiseFault c s) = statusClass s := rfl

@[simp] theorem statusClass_answer (r : Response) (s : State) :
    statusClass (answer r s) = statusClass s := rfl

@[simp] theorem afterPin_raiseFault (c : FCause) (s : State) :
    afterPin (raiseFault c s) = raiseFault c (afterPin s) := by
  unfold afterPin
  rw [raiseFault_mode, raiseFault_drive]
  split
  · rfl
  · split <;> rfl

@[simp] theorem pin_raiseFault (c : FCause) (s : State) : pin (raiseFault c s) = pin s := rfl

end Sys2Proof.Machine
end

