-- ==== Sys2Proof/Laws/Engine.lean ====
section
/-! SUPPORT. What an engine step can do, said once: it changes nothing, or it is one of the moves below
(41_handshake.md R160 to R165; 42_bitframe.md R190, R191). -/

namespace Sys2Proof.Machine

/-- The engine took the step and stayed in its state: its hold is not over, or the awaited level has
not come and the bound is not passed. -/
def Waits (s : State) : Prop :=
  s.phase = .startLow ∧ s.tcount < s.cfg.tStartLow ∨
  s.phase = .startHigh ∧ s.tcount < s.cfg.tStartHigh ∨
  s.phase = .respLow ∧ pin s = .low ∧ s.tcount ≤ s.cfg.tResp ∨
  s.phase = .respHigh ∧ pin s = .high ∧ s.tcount ≤ s.cfg.tResp ∨
  s.phase = .bitLow ∧ pin s = .low ∧ s.tcount ≤ s.cfg.tBit ∨
  s.phase = .bitHigh ∧ pin s = .high ∧ s.tcount ≤ s.cfg.tBit

/-- The moves out of a state `s`, each with its guard and all it writes; `t` is the state after the
sample and `u` the state after the move. -/
inductive Move (s t u : State) : Prop
  | holdLow (h : s.phase = .startLow) (hE : s.cfg.tStartLow ≤ s.tcount)
      (e : u = { t with latch := .high, tcount := 0, phase := .startHigh })
  | holdHigh (h : s.phase = .startHigh) (hE : s.cfg.tStartHigh ≤ s.tcount)
      (e : u = { t with mode := .input, tcount := 0, phase := .respLow })
  | respRise (h : s.phase = .respLow) (hp : pin s = .high)
      (e : u = { t with tcount := 0, phase := .respHigh })
  | respFall (h : s.phase = .respHigh) (hp : pin s = .low)
      (e : u = { t with tcount := 0, bitidx := 0, phase := .bitLow })
  | bitRise (h : s.phase = .bitLow) (hp : pin s = .high)
      (e : u = { t with tcount := 0, phase := .bitHigh })
  | bitFall (h : s.phase = .bitHigh) (hp : pin s = .low) (hi : s.bitidx ≠ 39)
      (e : u = { t with
        buf := pack s.buf s.bitidx.toNat (decodeBit s.cfg s.tcount)
        bitidx := s.bitidx + 1, tcount := 0, phase := .bitLow })
  | lastFall (h : s.phase = .bitHigh) (hp : pin s = .low) (hi : s.bitidx = 39)
      (e : u = { t with
        buf := pack s.buf s.bitidx.toNat (decodeBit s.cfg s.tcount), phase := .done })
  | noResponse (h : s.phase = .respLow ∧ pin s = .low ∨ s.phase = .respHigh ∧ pin s = .high)
      (hE : s.cfg.tResp < s.tcount) (e : u = { t with errk := .noResponse, phase := .failed })
  | timeout (h : s.phase = .bitLow ∧ pin s = .low ∨ s.phase = .bitHigh ∧ pin s = .high)
      (hE : s.cfg.tBit < s.tcount) (e : u = { t with errk := .timeout, phase := .failed })

/-- Every engine step is idle, a wait or a move. -/
theorem engineStep_cases (s : State) :
    (busy s = false ∧ engineStep s = s) ∨
      (busy s = true ∧ Waits s ∧ engineStep s = afterPin s) ∨
      (busy s = true ∧ Move s (afterPin s) (engineStep s)) := by
  cases h : s.phase with
  | startLow =>
    by_cases hE : s.cfg.tStartLow ≤ s.tcount
    · exact .inr (.inr ⟨by simp [busy, h], .holdLow h hE (by
        simp [engineStep, busy, stateRule, h, stepStartLow, hE])⟩)
    · exact .inr (.inl ⟨by simp [busy, h], .inl ⟨h, by omega⟩, by
        simp [engineStep, busy, stateRule, h, stepStartLow, hE]⟩)
  | startHigh =>
    by_cases hE : s.cfg.tStartHigh ≤ s.tcount
    · exact .inr (.inr ⟨by simp [busy, h], .holdHigh h hE (by
        simp [engineStep, busy, stateRule, h, stepStartHigh, hE])⟩)
    · exact .inr (.inl ⟨by simp [busy, h], .inr (.inl ⟨h, by omega⟩), by
        simp [engineStep, busy, stateRule, h, stepStartHigh, hE]⟩)
  | respLow =>
    cases hp : pin s with
    | high => exact .inr (.inr ⟨by simp [busy, h], .respRise h hp (by
        simp [engineStep, busy, stateRule, h, stepRespLow, hp])⟩)
    | low =>
      by_cases hE : s.cfg.tResp < s.tcount
      · exact .inr (.inr ⟨by simp [busy, h], .noResponse (.inl ⟨h, hp⟩) hE (by
          simp [engineStep, busy, stateRule, h, stepRespLow, hp, hE, failCycle])⟩)
      · exact .inr (.inl ⟨by simp [busy, h], .inr (.inr (.inl ⟨h, hp, by omega⟩)), by
          simp [engineStep, busy, stateRule, h, stepRespLow, hp, hE]⟩)
  | respHigh =>
    cases hp : pin s with
    | low => exact .inr (.inr ⟨by simp [busy, h], .respFall h hp (by
        simp [engineStep, busy, stateRule, h, stepRespHigh, hp])⟩)
    | high =>
      by_cases hE : s.cfg.tResp < s.tcount
      · exact .inr (.inr ⟨by simp [busy, h], .noResponse (.inr ⟨h, hp⟩) hE (by
          simp [engineStep, busy, stateRule, h, stepRespHigh, hp, hE, failCycle])⟩)
      · exact .inr (.inl ⟨by simp [busy, h], .inr (.inr (.inr (.inl ⟨h, hp, by omega⟩))), by
          simp [engineStep, busy, stateRule, h, stepRespHigh, hp, hE]⟩)
  | bitLow =>
    cases hp : pin s with
    | high => exact .inr (.inr ⟨by simp [busy, h], .bitRise h hp (by
        simp [engineStep, busy, stateRule, h, stepBitLow, hp])⟩)
    | low =>
      by_cases hE : s.cfg.tBit < s.tcount
      · exact .inr (.inr ⟨by simp [busy, h], .timeout (.inl ⟨h, hp⟩) hE (by
          simp [engineStep, busy, stateRule, h, stepBitLow, hp, hE, failCycle])⟩)
      · exact .inr (.inl ⟨by simp [busy, h], .inr (.inr (.inr (.inr (.inl ⟨h, hp, by omega⟩)))), by
          simp [engineStep, busy, stateRule, h, stepBitLow, hp, hE]⟩)
  | bitHigh =>
    cases hp : pin s with
    | low =>
      by_cases hi : s.bitidx = 39
      · exact .inr (.inr ⟨by simp [busy, h], .lastFall h hp hi (by
          simp [engineStep, busy, stateRule, h, stepBitHigh, hp, hi])⟩)
      · exact .inr (.inr ⟨by simp [busy, h], .bitFall h hp hi (by
          simp only [engineStep, busy, stateRule, h, stepBitHigh, hp, afterPin_phase,
            afterPin_bitidx, afterPin_buf, afterPin_cfg, if_neg hi, if_true])⟩)
    | high =>
      by_cases hE : s.cfg.tBit < s.tcount
      · exact .inr (.inr ⟨by simp [busy, h], .timeout (.inr ⟨h, hp⟩) hE (by
          simp [engineStep, busy, stateRule, h, stepBitHigh, hp, hE, failCycle])⟩)
      · exact .inr (.inl ⟨by simp [busy, h], .inr (.inr (.inr (.inr (.inr ⟨h, hp, by omega⟩)))), by
          simp [engineStep, busy, stateRule, h, stepBitHigh, hp, hE]⟩)
  | idle | done | failed =>
    exact .inl ⟨by simp [busy, h], engineStep_quiescent (by simp [busy, h])⟩

end Sys2Proof.Machine
end

