-- ==== Sys2Proof/Laws/PerInstr.lean ====
section
/-! SUPPORT. Statements made for each command as syntax: the row of the opcode map it belongs to
(30_encoding.md R92, R93). -/

namespace Sys2Proof.Laws.TableRow

/-- The command's word matches its row, and its row is one of the map. -/
def Statement (i : Instr) : Prop := i.row ∈ opcodeMap ∧ i.row.hits (encode i) = true

theorem setmode (m : Mode) : Statement (.setmode m) := by cases m <;> unfold Statement <;> decide
theorem write (v : Level) : Statement (.write v) := by cases v <;> unfold Statement <;> decide
theorem read : Statement .read := by unfold Statement; decide
theorem rsttmr : Statement .rsttmr := by unfold Statement; decide
theorem elapsed : Statement .elapsed := by unfold Statement; decide
theorem tmrctl (s : Bool) : Statement (.tmrctl s) := by cases s <;> unfold Statement <;> decide
theorem start : Statement .start := by unfold Statement; decide
theorem rdstat : Statement .rdstat := by unfold Statement; decide
theorem rdbyte (k : BitVec 2) : Statement (.rdbyte k) := by revert k; unfold Statement; decide
theorem rdfault : Statement .rdfault := by unfold Statement; decide

end Sys2Proof.Laws.TableRow
end

