-- ==== Sys2Proof/Laws/Step.lean ====
section
/-! SUPPORT. What a step of the machine can do, said once. -/

namespace Sys2Proof.Machine

/-- A step with a next state ran the next agent's step under a well-formed configuration. -/
theorem step_next {s t : State} (h : step s = .next t) :
    s.cfg.wf = true ∧ runEvent (nextEvent s).1 (nextEvent s).2 = .next t := by
  unfold step runNext at h
  split at h
  · exact ⟨‹_›, h⟩
  · cases h

theorem step_of_wf {s : State} (h : s.cfg.wf = true) :
    step s = runEvent (nextEvent s).1 (nextEvent s).2 := by
  simp [step, runNext, h]

theorem step_cons {s : State} {e : Event} {es : List Event} (hw : s.cfg.wf = true)
    (h : s.sched = e :: es) : step s = runEvent e { s with sched := es } := by
  rw [step_of_wf hw, nextEvent_cons h]

theorem core_run_zero (s : State) : Host.Core.run Sys2Proof.core 0 s = .next s := rfl

theorem core_run_succ_next {s t : State} (h : step s = .next t) (k : Nat) :
    Host.Core.run Sys2Proof.core (k + 1) s = Host.Core.run Sys2Proof.core k t := by
  have hs : Sys2Proof.core.step s = .next t := h
  simp only [Host.Core.run, hs]

/-- A run of `a + b` steps is a run of `b` steps from where the first `a` lead. -/
theorem core_run_add {a : Nat} {s t : State} (h : Host.Core.run Sys2Proof.core a s = .next t)
    (b : Nat) : Host.Core.run Sys2Proof.core (a + b) s = Host.Core.run Sys2Proof.core b t := by
  induction a generalizing s with
  | zero => cases h; rw [Nat.zero_add]
  | succ a ih =>
    have hs : ∃ u, step s = .next u ∧ Host.Core.run Sys2Proof.core a u = .next t := by
      cases hu : step s with
      | next u => exact ⟨u, rfl, by rw [core_run_succ_next hu] at h; exact h⟩
      | fault r => cases r
      | refused r =>
        have hr : Sys2Proof.core.step s = .refused r := hu
        simp only [Host.Core.run, hr] at h; cases h
    obtain ⟨u, h1, h2⟩ := hs
    rw [Nat.succ_add, core_run_succ_next h1, ih h2]

/-- A stretch of ticks below saturation only counts (40_line.md R127). -/
theorem core_run_ticks (n : Nat) (es : List Event) : ∀ s : State, s.cfg.wf = true →
    s.trun = true → s.tcount + n ≤ tcountMax s.cfg → s.sched = List.replicate n .clock ++ es →
    Host.Core.run Sys2Proof.core n s = .next { s with tcount := s.tcount + n, sched := es } := by
  induction n with
  | zero => intro s _ _ _ he; subst he; rfl
  | succ n ih =>
    intro s hw hr hn he
    have h1 : step s =
        .next { s with tcount := s.tcount + 1, sched := List.replicate n .clock ++ es } := by
      rw [step_cons hw he]
      simp only [runEvent, clockStep, hr, if_true]
      rw [Nat.min_eq_left (by omega)]
      rfl
    rw [core_run_succ_next h1]
    refine (ih { s with tcount := s.tcount + 1, sched := List.replicate n .clock ++ es } hw hr
      (by simp only; omega) rfl).trans ?_
    simp only [Nat.add_assoc, Nat.add_comm 1 n]

end Sys2Proof.Machine
end

