-- ==== Sys2Proof/Tests/Slice0.lean ====
section
/-! SUPPORT. Tests. Expected results are 95_test_vectors.md's, or the rule's that is named, never the
model's own answers. After them, one witness for the hypotheses of each statement. -/

namespace Sys2Proof.Tests

open Sys2Proof.Machine

/-- The next state of an outcome. -/
def nextOf (r : Result) : Option State :=
  match r with
  | .next t => some t
  | .fault _ | .refused _ => none

/-- The outcome is the refusal of an ill-formed configuration. -/
def isIllFormed (r : Result) : Bool :=
  match r with
  | .refused .illFormedConfig => true
  | _ => false

/-- Reset, then TMRCTL RUN (70_reset_and_hazards.md R342). -/
def idle : State := { State.reset with trun := true }

/-- A state of a cycle in StartLow, as START leaves it. -/
def inStartLow : State := { idle with mode := .output, latch := .low, phase := .startLow }

/-- A state of a cycle in StartHigh. -/
def inStartHigh : State := { idle with mode := .output, phase := .startHigh }

/-- A state of a cycle in one of the four wait states, whose sample sees `p` with E = `E`. -/
def waiting (ph : Phase) (p : Level) (E : Nat) : State :=
  { idle with phase := ph, drive := some p, tcount := E }

/-- A finished cycle over the five bytes. -/
def finished (B : Buffer) : State := { idle with phase := .done, bitidx := 39, buf := B }

/-- The source's good frame (V-L1-1). -/
def goodFrame : Buffer := ⟨0x32, 0x00, 0x15, 0x00, 0x47⟩

/-- The source's frame with a wrong checksum (V-L1-2). -/
def badFrame : Buffer := ⟨0x32, 0x00, 0x15, 0x00, 0x48⟩

/-- A failed cycle. -/
def failedWith (k : Errk) : State := { idle with phase := .failed, errk := k }

/-- A state with a contract fault recorded. -/
def faulted (c : FCause) (s : State) : State := { s with fault := true, fcause := c }

/-! ### Well-formedness (00_scope.md R9; 30_encoding.md R93, R94) -/

theorem test_wf_defaults : ({} : Config).wf = true := by decide
theorem test_wf1_low_hold : ({ tStartLow := 17999 } : Config).wf = false := by decide
theorem test_wf1_boundary : ({ tStartLow := 18000 } : Config).wf = true := by decide
theorem test_wf2_short : ({ tStartHigh := 19 } : Config).wf = false := by decide
theorem test_wf2_long : ({ tStartHigh := 41 } : Config).wf = false := by decide
theorem test_wf2_boundaries : ({ tStartHigh := 20 } : Config).wf = true ∧
    ({ tStartHigh := 40 } : Config).wf = true := by decide
theorem test_wf3_threshold : ({ tThresh := 100 } : Config).wf = false := by decide
theorem test_wf4_bound_at_saturation : ({ tResp := 65535 } : Config).wf = false ∧
    ({ tBit := 65535 } : Config).wf = false ∧ ({ tBit := 65534 } : Config).wf = true := by decide
theorem test_wf5_hold_past_saturation : ({ tStartLow := 65536 } : Config).wf5 = false ∧
    ({ tStartLow := 65535 } : Config).wf5 = true := by decide
theorem test_wf6_zero : ({ tickUsNum := 0 } : Config).wf6 = false ∧
    ({ tickUsDen := 0 } : Config).wf6 = false ∧
    ({ timerBits := 0 } : Config).wf6 = false := by decide
/-- A tick of 0.5 µs: 36000 ticks are 18 ms, and 40 to 80 ticks are 20 to 40 µs (00_scope.md R9, R10). -/
theorem test_wf_half_tick :
    ({ tickUsDen := 2, tStartLow := 36000, tStartHigh := 80 } : Config).wf = true ∧
    ({ tickUsDen := 2, tStartLow := 35999, tStartHigh := 80 } : Config).wf1 = false ∧
    ({ tickUsDen := 2, tStartLow := 36000, tStartHigh := 81 } : Config).wf2 = false ∧
    ({ tickUsDen := 2, tStartLow := 36000, tStartHigh := 39 } : Config).wf2 = false := by decide
theorem test_step_refuses_ill_formed :
    isIllFormed (step { idle with cfg := { tThresh := 100 } }) = true := by decide
theorem test_word_op_unassigned : opAssigned 0b01110000#8 = false ∧
    wordWf 0b01110000#8 = false ∧ wordWf 0b00000000#8 = false := by decide
theorem test_word_reserved_bit : reservedZero 0b00010010#8 = false ∧
    wordWf 0b00010010#8 = false ∧ wordWf 0b10100100#8 = false ∧ wordWf 0b00110001#8 = false := by
  decide

/-! ### Decoding, each word written bit by bit from 30_encoding.md R90, R92 and R93 -/

theorem test_decode_setmode : (decode 0b00010000#8).toOption = some (.setmode .output) ∧
    (decode 0b00010001#8).toOption = some (.setmode .input) := by decide
theorem test_decode_write : (decode 0b00100000#8).toOption = some (.write .low) ∧
    (decode 0b00100001#8).toOption = some (.write .high) := by decide
theorem test_decode_read : (decode 0b00110000#8).toOption = some .read := by decide
theorem test_decode_rsttmr : (decode 0b01000000#8).toOption = some .rsttmr := by decide
theorem test_decode_elapsed : (decode 0b01010000#8).toOption = some .elapsed := by decide
theorem test_decode_tmrctl : (decode 0b01100000#8).toOption = some (.tmrctl false) ∧
    (decode 0b01100001#8).toOption = some (.tmrctl true) := by decide
theorem test_decode_start : (decode 0b10000000#8).toOption = some .start := by decide
theorem test_decode_rdstat : (decode 0b10010000#8).toOption = some .rdstat := by decide
theorem test_decode_rdbyte : (decode 0b10100000#8).toOption = some (.rdbyte 0) ∧
    (decode 0b10100001#8).toOption = some (.rdbyte 1) ∧
    (decode 0b10100010#8).toOption = some (.rdbyte 2) ∧
    (decode 0b10100011#8).toOption = some (.rdbyte 3) := by decide
theorem test_decode_rdfault : (decode 0b10110000#8).toOption = some .rdfault := by decide
/-- V-E-2. -/
theorem test_decode_illegal :
    ([0x00#8, 0x12#8, 0x31#8, 0x70#8, 0x81#8, 0x91#8, 0xA4#8, 0xC0#8, 0xFF#8].map
      fun w => (decode w).toOption) = List.replicate 9 none := by decide
theorem test_table_word : decodeTableWord 8 0x91 = none ∧
    decodeTableWord 8 0x90 = some .rdstat ∧ decodeTableWord 16 0x90 = none := by decide
/-- The first host step after reset runs exactly the word (V-L2-S2, V-L2-S1). -/
theorem test_step_runs_word :
    nextOf (step (State.reset.withFetchWord 8 0x61)) = some idle ∧
    nextOf (step (State.reset.withFetchWord 8 0x90)) =
      some { State.reset with resp := some (.status 0x60) } := by decide

/-! ### Commands (95_test_vectors.md 3.1, 3.2, 3.5) -/

/-- V-L2-L1, V-L2-L10. -/
theorem test_setmode :
    nextOf (exec (.setmode .output) State.reset) = some { State.reset with mode := .output } ∧
    nextOf (exec (.setmode .input) inStartLow) = some (faulted .lineOwnedByDriver inStartLow) := by
  decide
/-- V-L2-L2, V-L2-L3. -/
theorem test_write :
    nextOf (exec (.write .low) { idle with mode := .output }) =
      some { idle with mode := .output, latch := .low } ∧
    nextOf (exec (.write .low) idle) = some (faulted .writeInInputMode idle) := by decide
/-- V-L2-L11, V-L2-L12: ownership is checked first. -/
theorem test_write_busy :
    nextOf (exec (.write .high) inStartLow) = some (faulted .lineOwnedByDriver inStartLow) ∧
    nextOf (exec (.write .low) (waiting .respLow .low 1)) =
      some (faulted .lineOwnedByDriver (waiting .respLow .low 1)) := by decide
/-- V-L2-L4, V-L2-L5. -/
theorem test_read :
    (nextOf (exec .read { idle with mode := .output, drive := some .low })).map State.resp =
      some (some (.level .high)) ∧
    (nextOf (exec .read { idle with drive := some .low })).map State.resp =
      some (some (.level .low)) := by decide
/-- V-L2-L6. -/
theorem test_rsttmr : nextOf (exec .rsttmr { idle with tcount := 1234 }) = some idle := by decide
/-- The example of 40_line.md R125. -/
theorem test_elapsed : nextOf (exec .elapsed { idle with tcount := 70 }) =
    some { idle with tcount := 70, resp := some (.count 70) } := by decide
/-- V-L2-L9. -/
theorem test_tmrctl :
    nextOf (exec (.tmrctl false) { idle with tcount := 7 }) =
      some { idle with tcount := 7, trun := false } ∧
    nextOf (exec (.tmrctl true) { State.reset with tcount := 5 }) =
      some { idle with tcount := 5 } := by decide
/-- V-L2-H11, V-L2-H10. -/
theorem test_start :
    nextOf (exec .start { finished goodFrame with tcount := 76 }) = some inStartLow ∧
    nextOf (exec .start { inStartLow with tcount := 1 }) =
      some (faulted .startWhileBusy { inStartLow with tcount := 1 }) := by decide
/-- V-L2-S6 and V-L2-S7. -/
theorem test_rdstat :
    statusWord (finished goodFrame) = 0x78#8 ∧ statusWord (failedWith .noResponse) = 0x7D#8 ∧
    statusWord (failedWith .timeout) = 0x7E#8 ∧ statusWord (finished badFrame) = 0x7F#8 ∧
    statusWord (faulted .noReading (failedWith .noResponse)) = 0xFD#8 := by decide
/-- V-L2-S8. -/
theorem test_rdbyte :
    [0, 1, 2, 3].map (fun k =>
      (nextOf (exec (.rdbyte k) (finished goodFrame))).map State.resp) =
    [some (some (.byte 0x32)), some (some (.byte 0x00)), some (some (.byte 0x15)),
      some (some (.byte 0x00))] := by decide
/-- V-L2-S9. -/
theorem test_rdbyte_not_ready :
    nextOf (exec (.rdbyte 0) (finished badFrame)) =
      some (faulted .noReading (finished badFrame)) ∧
    nextOf (exec (.rdbyte 0) idle) = some (faulted .noReading idle) := by decide
/-- V-L2-S11, V-L2-S12: the first cause is kept. -/
theorem test_rdfault :
    (nextOf (exec .rdfault idle)).map State.resp = some (some (.cause 0)) ∧
    (nextOf (exec .rdfault (raiseFault .illegalCommand (raiseFault .noReading idle)))).map
      State.resp = some (some (.cause 5)) := by decide

/-! ### The other agents (95_test_vectors.md 3.1 to 3.4) -/

/-- V-L2-L7, V-L2-L8. -/
theorem test_clock :
    (clockStep { idle with tcount := 0xFFFE }).tcount = 0xFFFF ∧
    (clockStep { idle with tcount := 0xFFFF }).tcount = 0xFFFF ∧
    (clockStep { State.reset with tcount := 5 }).tcount = 5 := by decide
/-- V-L2-H1: E = 24999 stays and E = 25000 leaves; E = 29 stays and E = 30 leaves. -/
theorem test_start_holds :
    engineStep { inStartLow with tcount := 24999 } = { inStartLow with tcount := 24999 } ∧
    engineStep { inStartLow with tcount := 25000 } = inStartHigh ∧
    engineStep { inStartHigh with tcount := 29 } = { inStartHigh with tcount := 29 } ∧
    engineStep { inStartHigh with tcount := 30 } = { idle with phase := .respLow } := by decide
/-- V-L2-H6, V-L2-H7: the level wins at E = 101, and E = 101 with the line low fails. -/
theorem test_resp_low :
    (engineStep (waiting .respLow .high 101)).phase = .respHigh ∧
    engineStep (waiting .respLow .low 101) = { failedWith .noResponse with tcount := 101 } ∧
    (engineStep (waiting .respLow .low 100)).phase = .respLow := by decide
/-- V-L2-H8, V-L2-H9. -/
theorem test_resp_high :
    (engineStep (waiting .respHigh .low 101)).phase = .bitLow ∧
    engineStep (waiting .respHigh .high 101) = { failedWith .noResponse with tcount := 101 } ∧
    (engineStep (waiting .respHigh .high 100)).phase = .respHigh := by decide
/-- V-L2-B4, V-L2-B5. -/
theorem test_bit_low :
    (engineStep (waiting .bitLow .high 101)).phase = .bitHigh ∧
    engineStep (waiting .bitLow .low 101) = { failedWith .timeout with tcount := 101 } ∧
    (engineStep (waiting .bitLow .low 100)).phase = .bitLow := by decide
/-- The example of 42_bitframe.md R191, and V-L2-B1's threshold: 50 decodes to 0 and 51 to 1. -/
theorem test_bit_high :
    engineStep (waiting .bitHigh .low 70) =
      { idle with phase := .bitLow, bitidx := 1, buf := ⟨0x80, 0, 0, 0, 0⟩ } ∧
    (engineStep (waiting .bitHigh .low 50)).buf = Buffer.zero ∧
    (engineStep (waiting .bitHigh .low 51)).buf = ⟨0x80, 0, 0, 0, 0⟩ := by decide
/-- V-L2-B2, V-L2-B3, and V-L2-B10: TCOUNT is not reset on entering Done. -/
theorem test_bit_high_end :
    (engineStep (waiting .bitHigh .low 101)).buf = ⟨0x80, 0, 0, 0, 0⟩ ∧
    engineStep (waiting .bitHigh .high 101) = { failedWith .timeout with tcount := 101 } ∧
    engineStep { waiting .bitHigh .low 70 with bitidx := 39, buf := ⟨0x32, 0, 0x15, 0, 0x46⟩ } =
      { finished goodFrame with tcount := 70 } := by decide
/-- V-L2-B9. -/
theorem test_pack :
    pack Buffer.zero 0 true = ⟨0x80, 0, 0, 0, 0⟩ ∧ pack Buffer.zero 8 true = ⟨0, 0x80, 0, 0, 0⟩ ∧
    pack Buffer.zero 39 true = ⟨0, 0, 0, 0, 0x01⟩ ∧ pack goodFrame 0 false = goodFrame := by decide
/-- V-L2-V1 to V-L2-V6. -/
theorem test_validator :
    cycleResult (finished goodFrame) = .reading 0x32 0x00 0x15 0x00 ∧
    cycleResult (finished badFrame) = .error .checksumMismatch ∧
    checksumOk ⟨0xFF, 0xFF, 0xFF, 0xFF, 0xFC⟩ = true ∧ checksumOk ⟨0x80, 0x80, 0, 0, 0⟩ = true ∧
    checksumOk ⟨0x99, 0x00, 0x0A, 0x80, 0x23⟩ = true := by decide
/-- V-L2-V7, V-L2-V8. -/
theorem test_validator_failed :
    cycleResult { failedWith .timeout with buf := goodFrame } = .error .timeout ∧
    cycleResult idle = .noResult ∧ cycleResult inStartLow = .noResult := by decide
/-- The call of 44_host.md R245 on the outcomes of V-L2-S6 and V-L2-S8. -/
theorem test_call :
    (HostSeq.cycleRead.issueCall (failedWith .noResponse)).1 = .outcome (.error .noResponse) ∧
    (HostSeq.cycleRead.issueCall (failedWith .timeout)).1 = .outcome (.error .timeout) ∧
    (HostSeq.cycleRead.issueCall (finished badFrame)).1 = .outcome (.error .checksumMismatch) ∧
    (HostSeq.cycleRead.issueCall (finished goodFrame)).1 = .takeHint ∧
    ((HostSeq.takeTfrac 0x32 0x00 0x15).issueCall (finished goodFrame)).1 =
      .outcome (.reading 0x32 0x00 0x15 0x00) := by decide
/-- 70_reset_and_hazards.md R340: a reset abandons a cycle and clears FAULT. -/
theorem test_reset_event :
    nextOf (runEvent .reset (faulted .noReading (waiting .bitHigh .high 3))) =
      some { State.reset with drive := some .high } := by decide

/-! ### Witnesses: each statement's hypotheses hold together somewhere -/

theorem witness_ResetPutsRegistersAtResetValues :
    nextOf (runEvent .reset inStartLow) = some State.reset ∧
    (Event.clock ≠ .reset ∧ (faulted .noReading idle).fault = true ∧
      (nextOf (runEvent .clock (faulted .noReading idle))).isSome = true) := by decide

theorem witness_IllFormedConfigurationHasNoRun :
    (idle.cfg.wf = true ∧ (nextOf (step { idle with sched := [.clock] })).isSome = true) ∧
    ({ idle with cfg := { tStartHigh := 41 } } : State).cfg.wf = false := by decide

/-- WF1, WF2 and WF6 in microseconds: the default configuration and one with a tick of 0.5 µs meet
them at their bounds, and a high hold of 41 µs fails WF2. -/
theorem witness_tick_in_microseconds :
    ((18000 : ℚ) ≤ ({} : Config).tStartLow * ({} : Config).tickUs ∧
      (20 : ℚ) ≤ ({} : Config).tStartHigh * ({} : Config).tickUs ∧
      ({} : Config).tStartHigh * ({} : Config).tickUs ≤ (40 : ℚ) ∧ 0 < ({} : Config).tickUs) ∧
    ((18000 : ℚ) = (36000 : ℕ) * ({ tickUsDen := 2 } : Config).tickUs ∧
      (80 : ℕ) * ({ tickUsDen := 2 } : Config).tickUs = (40 : ℚ)) ∧
    ¬ (41 : ℕ) * ({} : Config).tickUs ≤ (40 : ℚ) := by
  norm_num [Config.tickUs]

/-- Each range of illegal words begins just past a legal word and ends just before one. -/
theorem witness_IllegalWordsOnlyFault :
    ([0x0F#8, 0x10#8, 0x11#8, 0x12#8, 0x1F#8, 0x20#8, 0x21#8, 0x22#8, 0x2F#8, 0x30#8, 0x31#8, 0x3F#8,
      0x40#8, 0x41#8, 0x4F#8, 0x50#8, 0x51#8, 0x5F#8, 0x60#8, 0x61#8, 0x62#8, 0x7F#8, 0x80#8,
      0x81#8, 0x8F#8, 0x90#8, 0x91#8, 0x9F#8, 0xA0#8, 0xA3#8, 0xA4#8, 0xAF#8, 0xB0#8,
      0xB1#8].map fun w => (decode w).toOption.isSome) =
    [false, true, true, false, false, true, true, false, false, true, false, false,
      true, false, false, true, false, false, true, true, false, false, true,
      false, false, true, false, false, true, true, false, false, true, false] := by decide

theorem witness_DecodeAndEncodeAgree :
    (decode 0xA2#8).toOption = some (.rdbyte 2) ∧ wordWf 0xA2#8 = true := by decide

theorem witness_StepRunsTheDecodedCommand :
    ({ idle with sched := [.host 0x80#8, .engine] } : State).cfg.wf = true ∧
    ({ idle with sched := [.host 0x80#8, .engine] } : State).sched =
      .host 0x80#8 :: [.engine] ∧
    (decode 0x80#8).toOption = some .start ∧ (0xB0 : Nat) < 256 ∧
    decodeTableWord 8 0xB0 = some .rdfault := by decide

theorem witness_ScheduledAgentStepsNext :
    idle.cfg.wf = true ∧ ({ idle with sched := [.sensor .low] } : State).sched = .sensor .low :: [] ∧
    idle.sched = [] := by decide

/-- Idle in each mode, and busy, for WriteSetsTheLatchInOutputMode, ReadReturnsTheSensedLevel,
TimerCommandsResetReadAndRun, StartBeginsACycle and RdstatReturnsTheStatusWord. -/
theorem witness_line_commands :
    busy idle = false ∧ idle.mode = .input ∧ idle.drive = none ∧
    (busy { idle with drive := some .low } = false ∧
      ({ idle with drive := some .low } : State).drive = some .low) ∧
    (busy { idle with mode := .output } = false ∧
      ({ idle with mode := .output } : State).mode = .output) ∧
    busy inStartLow = true ∧
    (opField 0x1F#8 = 0x1#4 ∧ (0x1F#8).extractLsb' 1 3 ≠ 0#3) ∧
    (opField 0x22#8 = 0x2#4 ∧ (0x22#8).extractLsb' 1 3 ≠ 0#3) ∧
    (opField 0x68#8 = 0x6#4 ∧ (0x68#8).extractLsb' 1 3 ≠ 0#3) := by decide

theorem witness_SetmodeSwitchesTheDirection :
    busy idle = false ∧
    nextOf (exec (.setmode .input) idle) = some idle ∧
    nextOf (runEvent (.sensor .low) idle) = some { idle with drive := some .low } := by decide

theorem witness_RdbyteReadsOnlyAReadyReading :
    (finished goodFrame).phase = .done ∧
    (goodFrame.humidityInt + goodFrame.humidityFrac + goodFrame.tempInt + goodFrame.tempFrac =
      goodFrame.checksum) ∧
    idle.phase ≠ .done ∧
    (badFrame.humidityInt + badFrame.humidityFrac + badFrame.tempInt + badFrame.tempFrac ≠
      badFrame.checksum) ∧
    (opField 0xA4#8 = 0xA#4 ∧ (0xA4#8).extractLsb' 2 2 ≠ 0#2) := by decide

/-- The reset state meets the invariant, so statements over `Inv` are about something. -/
theorem inv_reset : State.reset.Inv := by constructor <;> decide

theorem witness_ResponsesFitTheirWidths :
    State.reset.Inv ∧ exec .elapsed State.reset = .next { State.reset with resp := some (.count 0) } ∧
    State.reset.fault = false ∧ (raiseFault .noReading State.reset).fault = true ∧
    exec (.rdbyte 0) State.reset = .next (raiseFault .noReading State.reset) :=
  ⟨inv_reset, rfl, rfl, rfl, rfl⟩

theorem witness_RdfaultReturnsTheCauseCode : State.reset.Inv ∧ State.reset.fault = false :=
  ⟨inv_reset, rfl⟩

/-- READ in each mode, and the four other reading commands, answer. -/
theorem witness_ReadingCommandsChangeNoRegister :
    ((nextOf (exec .read { finished goodFrame with mode := .output })).map
      fun t => t.resp.isSome) = some true ∧
    nextOf (exec .read { idle with drive := some .low }) =
      some { idle with resp := some (.level .low) } ∧
    ([Instr.elapsed, .rdstat, .rdbyte 3, .rdfault].map fun i =>
      (nextOf (exec i (finished goodFrame))).map fun t => t.resp.isSome) =
    List.replicate 4 (some true) := by decide

theorem witness_ContractFaultIsStickyAndIsolated :
    idle.fault = false ∧ (faulted .noReading idle).fault = true ∧ busy inStartLow = true ∧
    nextOf (runEvent (.host 0x21#8) inStartLow) = some (faulted .lineOwnedByDriver inStartLow) ∧
    (nextOf (runEvent .engine (faulted .noReading idle))).isSome = true ∧
    Instr.elapsed ≠ .rdstat ∧ Instr.elapsed ≠ .rdfault ∧
    (nextOf (exec .elapsed idle)).isSome = true ∧
    (nextOf (exec .elapsed (raiseFault .noReading idle))).isSome = true := by decide

theorem witness_FaultChecksAreOrdered :
    (decode 0x00#8).toOption = none ∧ busy inStartLow = true ∧
    (decode 0x20#8).toOption = some (.write .low) ∧ (decode 0x80#8).toOption = some .start ∧
    busy idle = false ∧ idle.mode = .input ∧ (decode 0xA3#8).toOption = some (.rdbyte 3) ∧
    statusClass idle ≠ .ready := by decide

/-- One state of each kind, for ClassAndErrFollowTheState, StatusWordsOfTheVectors and
OutcomeIsTheValidatedResult. -/
theorem witness_status :
    (idle.phase = .idle ∧ idle.fault = false ∧ idle.trun = true ∧ idle.mode = .input ∧
      idle.latch = .high) ∧
    (inStartLow.phase = .startLow ∧ inStartLow.fault = false ∧ inStartLow.trun = true ∧
      inStartLow.mode = .output ∧ inStartLow.latch = .low) ∧
    (inStartHigh.phase = .startHigh ∧ inStartHigh.mode = .output ∧ inStartHigh.latch = .high) ∧
    ((waiting .bitHigh .low 1).phase ∈ [Phase.respLow, .respHigh, .bitLow, .bitHigh] ∧
      (waiting .bitHigh .low 1).mode = .input) ∧
    ((finished goodFrame).phase = .done ∧ checksumOk (finished goodFrame).buf = true) ∧
    ((finished badFrame).phase = .done ∧ checksumOk (finished badFrame).buf = false) ∧
    ((failedWith .noResponse).phase = .failed ∧ (failedWith .noResponse).errk = .noResponse) ∧
    ((failedWith .timeout).phase = .failed ∧ (failedWith .timeout).errk = .timeout) ∧
    ((failedWith .none).phase = .failed ∧ (failedWith .none).errk = .none) := by decide

theorem witness_PinIsLatchOrSensorDraw :
    inStartLow.mode = .output ∧ idle.mode = .input ∧ idle.drive = none := by decide

theorem witness_ClockTicksAndSaturates : idle.trun = true ∧ State.reset.trun = false := by decide

/-- A tick below the top and at the top, and a step that is no tick. -/
theorem witness_TcountNeverFallsButToZero :
    (({ idle with tcount := 65534, sched := [.clock] } : State).tcount ≤ 2 ^ 16 - 1 ∧
      (nextEvent { idle with tcount := 65534, sched := [.clock] }).1 = .clock ∧
      (nextOf (step { idle with tcount := 65534, sched := [.clock] })).map State.tcount =
        some 65535) ∧
    (nextOf (step { idle with tcount := 65535, sched := [.clock] })).map State.tcount =
      some 65535 ∧
    (nextOf (step { idle with tcount := 9, sched := [.host 0x40#8] })).map State.tcount =
      some 0 ∧
    (nextOf (step { State.reset with tcount := 5, sched := [.clock] })).map State.tcount =
      some 5 ∧
    (nextOf (step { waiting .respLow .high 9 with sched := [.engine] })).map State.tcount =
      some 0 := by decide

theorem witness_EngineStepsOnlyWhileBusy :
    idle.phase = .idle ∧ (finished badFrame).phase = .done ∧ (failedWith .timeout).phase = .failed ∧
    busy inStartHigh = true := by decide

/-- Both sides of each hold. -/
theorem witness_StartHoldsAreTimed :
    ({ inStartLow with tcount := 25000 } : State).cfg.tStartLow ≤ 25000 ∧
    ({ inStartLow with tcount := 24999 } : State).tcount < inStartLow.cfg.tStartLow ∧
    ({ inStartHigh with tcount := 30 } : State).cfg.tStartHigh ≤ 30 ∧
    ({ inStartHigh with tcount := 29 } : State).tcount < inStartHigh.cfg.tStartHigh := by decide

/-- A sample of each level in each wait state, at the bound and past it, for
ResponsePhasesAreBounded and BitPhasesAreMeasuredAndPacked. -/
theorem witness_wait_states :
    ∀ ph ∈ [Phase.respLow, .respHigh, .bitLow, .bitHigh],
      (waiting ph .high 100).phase = ph ∧ pin (waiting ph .high 100) = .high ∧
      pin (waiting ph .low 100) = .low ∧ (waiting ph .low 100).tcount ≤ ({} : Config).tResp ∧
      (waiting ph .low 100).tcount ≤ ({} : Config).tBit ∧
      ({} : Config).tResp < (waiting ph .low 101).tcount ∧
      ({} : Config).tBit < (waiting ph .high 101).tcount := by decide

theorem witness_BitPhasesAreMeasuredAndPacked :
    (({ waiting .bitHigh .low 51 with bitidx := 39 } : State).bitidx = 39 ∧
      pin { waiting .bitHigh .low 51 with bitidx := 39 } = .low) ∧
    ({ waiting .bitHigh .low 51 with bitidx := 38 } : State).bitidx.toNat < 39 := by decide

/-- The first and the last stream bit, for PackWritesOneBit and FrameIsBigEndian. -/
theorem witness_PackWritesOneBit : (39 : Nat) < 40 ∧ (0 : Nat) < 40 ∧ (0 : Nat) ≠ 39 := by decide

/-- One step of each kind that changes STATE: START, an engine step, a reset. -/
theorem witness_StateChangesAreTheSpecsTransitions :
    (nextOf (step { idle with sched := [.host 0x80#8] })).map State.phase = some .startLow ∧
    (nextOf (step { waiting .bitHigh .low 70 with bitidx := 39, sched := [.engine] })).map
      State.phase = some .done ∧
    (nextOf (step { inStartLow with sched := [.reset] })).map State.phase = some .idle := by decide

theorem witness_FailureIsRecordedOnce :
    (waiting .respLow .low 101).phase ≠ .failed ∧
    (nextOf (step { waiting .respLow .low 101 with sched := [.engine] })).map State.phase =
      some .failed ∧
    (nextOf (step { waiting .bitHigh .high 101 with sched := [.engine] })).map State.phase =
      some .failed := by decide

/-- One step that writes each register. -/
theorem witness_OnlyNamedStepsWriteARegister :
    (nextEvent { inStartHigh with tcount := 30, sched := [.engine] }).1 ≠ .reset ∧
    (nextOf (step { inStartHigh with tcount := 30, sched := [.engine] })).map State.mode =
      some .input ∧
    (nextOf (step { inStartLow with tcount := 25000, sched := [.engine] })).map State.latch =
      some .high ∧
    (nextOf (step { State.reset with sched := [.host 0x61#8] })).map State.trun = some true ∧
    (nextOf (step { idle with tcount := 9, sched := [.clock] })).map State.tcount = some 10 ∧
    (nextOf (step { waiting .bitHigh .low 51 with sched := [.engine] })).map State.bitidx =
      some 1 ∧
    (nextOf (step { finished goodFrame with sched := [.host 0x80#8] })).map State.buf =
      some Buffer.zero ∧
    (nextOf (step { waiting .respHigh .high 101 with sched := [.engine] })).map State.errk =
      some .noResponse ∧
    (nextOf (step { idle with sched := [.host 0x00#8] })).map State.fcause =
      some .illegalCommand := by decide

theorem witness_StepKeepsTheInvariant :
    { State.reset with sched := [.host 0x80#8] }.Inv ∧
    ∃ t, step { State.reset with sched := [.host 0x80#8] } = .next t :=
  ⟨by constructor <;> decide, _, rfl⟩

theorem witness_ReadyReadingIsAtomic :
    (∀ j ≤ 1, ∃ u, Host.Core.run Sys2Proof.core j
        { finished goodFrame with sched := [.clock] } = .next u ∧ statusClass u = .ready) ∧
    ∃ t, Host.Core.run Sys2Proof.core 1 { finished goodFrame with sched := [.clock] } =
      .next t := by
  refine ⟨fun j hj => ?_, _, rfl⟩
  match j, hj with
  | 0, _ => exact ⟨_, rfl, by decide⟩
  | 1, _ => exact ⟨_, rfl, by decide⟩

/-- A schedule from START that holds the line low for T_START_LOW ticks and then high for
T_START_HIGH ticks, and releases it. -/
def releaseSchedule (c : Config) : List Event :=
  List.replicate c.tStartLow .clock ++
    .engine :: (List.replicate c.tStartHigh .clock ++ .engine :: [])

theorem reset_not_mem_releaseSchedule (c : Config) : Event.reset ∉ releaseSchedule c := by
  simp [releaseSchedule, List.mem_replicate]

theorem releaseSchedule_length (c : Config) :
    (releaseSchedule c).length = c.tStartLow + (1 + (c.tStartHigh + 1)) := by
  simp [releaseSchedule]; omega

/-- A state of the hold in StartLow, and of the hold in StartHigh, with what is still to come. -/
def lowHold (c : Config) (n : Nat) (es : List Event) : State :=
  { inStartLow with cfg := c, tcount := n, sched := es }

/-- See `lowHold`. -/
def highHold (c : Config) (n : Nat) (es : List Event) : State :=
  { inStartHigh with cfg := c, tcount := n, sched := es }

/-- The released line. -/
def released (c : Config) : State := { idle with cfg := c, phase := .respLow }

theorem lowHold_ends (c : Config) (es : List Event) (hw : c.wf = true) :
    step (lowHold c c.tStartLow (.engine :: es)) = .next (highHold c 0 es) := by
  rw [step_cons (s := lowHold c c.tStartLow (.engine :: es)) hw rfl]
  simp [runEvent, engineStep, busy, stateRule, stepStartLow, afterPin, lowHold, highHold,
    inStartLow, inStartHigh, idle, State.reset]

theorem highHold_ends (c : Config) (hw : c.wf = true) :
    step (highHold c c.tStartHigh [.engine]) = .next (released c) := by
  rw [step_cons (s := highHold c c.tStartHigh [.engine]) hw rfl]
  simp [runEvent, engineStep, busy, stateRule, stepStartHigh, afterPin, highHold, released,
    inStartHigh, idle, State.reset]

theorem release_run (c : Config) (hw : c.wf = true) (hl : c.tStartLow ≤ tcountMax c)
    (hh : c.tStartHigh ≤ tcountMax c) :
    Host.Core.run Sys2Proof.core (c.tStartLow + (1 + (c.tStartHigh + 1)))
      (lowHold c 0 (releaseSchedule c)) = .next (released c) := by
  have a : Host.Core.run Sys2Proof.core c.tStartLow (lowHold c 0 (releaseSchedule c)) =
      .next (lowHold c (0 + c.tStartLow)
        (.engine :: (List.replicate c.tStartHigh .clock ++ [.engine]))) :=
    core_run_ticks _ _ (lowHold c 0 (releaseSchedule c)) hw rfl (by rwa [show
      (lowHold c 0 (releaseSchedule c)).tcount = 0 from rfl, Nat.zero_add]) rfl
  rw [Nat.zero_add] at a
  have b : Host.Core.run Sys2Proof.core c.tStartHigh
      (highHold c 0 (List.replicate c.tStartHigh .clock ++ [.engine])) =
      .next (highHold c (0 + c.tStartHigh) [.engine]) :=
    core_run_ticks _ _ (highHold c 0 (List.replicate c.tStartHigh .clock ++ [.engine])) hw rfl
      (by rwa [show (highHold c 0 (List.replicate c.tStartHigh .clock ++ [.engine])).tcount = 0
        from rfl, Nat.zero_add]) rfl
  rw [Nat.zero_add] at b
  rw [core_run_add a, Nat.add_comm 1, core_run_succ_next (lowHold_ends c _ hw), core_run_add b,
    core_run_succ_next (highHold_ends c hw)]
  rfl

/-- Both clauses of NoModeViolation: an engine step that writes LATCH from a state that meets the
invariant, and a schedule along which the line is released, under the default configuration. -/
theorem witness_NoModeViolation :
    ({ inStartLow with tcount := 25000 } : State).Inv ∧
    nextOf (runEvent .engine { inStartLow with tcount := 25000 }) = some inStartHigh ∧
    idle.cfg.wf = true ∧ busy idle = false ∧ exec .start idle = .next inStartLow ∧
    Event.reset ∉ releaseSchedule {} ∧
    ({} : Config).tStartLow + (1 + (({} : Config).tStartHigh + 1)) ≤
      (releaseSchedule {}).length ∧
    Host.Core.run Sys2Proof.core (({} : Config).tStartLow + (1 + (({} : Config).tStartHigh + 1)))
      (lowHold {} 0 (releaseSchedule {})) = .next (released {}) ∧
    (released {}).mode = .input ∧ (released {}).latch = .high :=
  ⟨by constructor <;> decide, by decide, by decide, by decide, rfl,
    reset_not_mem_releaseSchedule {}, (releaseSchedule_length {}).ge,
    release_run {} (by decide) (by decide) (by decide), rfl, rfl⟩

/-- Fair rounds beyond the bound, with the default configuration. -/
theorem witness_CycleEndsWithinItsBound :
    idle.cfg.wf = true ∧ idle.trun = true ∧ busy idle = false ∧
    exec .start idle = .next inStartLow ∧
    (∀ r ∈ List.replicate 33313 [Event.engine, .clock], fairRound r) ∧
    cycleBound idle.cfg < (List.replicate 33313 [Event.engine, .clock]).length := by
  refine ⟨by decide, rfl, by decide, rfl, ?_, ?_⟩
  · intro r hr
    obtain rfl := List.eq_of_mem_replicate hr
    exact ⟨by decide, [], [], [], rfl⟩
  · rw [List.length_replicate]; decide

theorem witness_StoppedTimerHangsTheCycle :
    State.reset.cfg.wf = true ∧ State.reset.trun = false ∧ busy State.reset = false ∧
    exec .start State.reset = .next { inStartLow with trun := false } ∧
    Event.reset ∉ [Event.clock, .engine] ∧ 2 ≤ [Event.clock, .engine].length ∧
    ∃ u, Host.Core.run Sys2Proof.core 2
      { inStartLow with trun := false, sched := [.clock, .engine] } = .next u :=
  ⟨by decide, rfl, by decide, rfl, by decide, by decide, _, rfl⟩

/-- The last bit of a frame, polled once while busy; and one poll in Idle, drawn from the schedule. -/
theorem witness_GoodRunBreaksNoContract :
    ({ waiting .bitHigh .low 70 with bitidx := 39, sched := [.host 0x90#8, .engine] } :
      State).goodRun 2 ∧
    busy { waiting .bitHigh .low 70 with bitidx := 39, sched := [.host 0x90#8, .engine] } = true ∧
    ({ idle with sched := [.host 0x90#8] } : State).goodRun 1 ∧
    (nextEvent { idle with sched := [.host 0x90#8] }).1 = .host 0x90#8 ∧ idle.mode = .input ∧
    statusClass idle ≠ .ready := by
  refine ⟨⟨fun j hj => ?_, fun j hj t u ht hu hb hb' => ?_⟩, by decide,
    ⟨fun j hj => ?_, fun j hj t u ht hu hb hb' => ?_⟩, by decide, by decide, by decide⟩
  · match j, hj with
    | 0, _ => exact ⟨_, rfl, rfl⟩
    | 1, _ => exact ⟨_, rfl, rfl⟩
    | 2, _ => exact ⟨_, rfl, rfl⟩
  · match j, hj with
    | 0, _ => cases ht; exact absurd hb (by decide)
    | 1, _ => cases (show Host.Outcome.next _ = .next t from ht); exact absurd hb (by decide)
  · match j, hj with
    | 0, _ => exact ⟨_, rfl, rfl⟩
    | 1, _ => exact ⟨_, rfl, rfl⟩
  · match j, hj with
    | 0, _ => cases (show Host.Outcome.next _ = .next u from hu); exact absurd hb' (by decide)

/-- A cycle that the run starts and does not end within it makes the run not good. -/
theorem unended_cycle_is_not_good :
    ¬ ({ idle with sched := [.host 0x80#8] } : State).goodRun 1 := by
  intro h
  obtain ⟨i, hi, ⟨u, hu, he⟩, _⟩ := h.2 0 (by decide) _ _ rfl rfl (by decide) (by decide)
  obtain rfl : i = 0 := Nat.le_zero.mp hi
  cases (show Host.Outcome.next _ = .next u from hu)
  rcases he with he | he <;> exact absurd he (by decide)

/-- Two states left by different earlier cycles. -/
theorem witness_CycleForgetsEarlierCycles :
    (finished goodFrame).cfg = (faulted .noReading (failedWith .timeout)).cfg ∧
    (finished goodFrame).trun = (faulted .noReading (failedWith .timeout)).trun ∧
    (finished goodFrame).drive = (faulted .noReading (failedWith .timeout)).drive ∧
    (finished goodFrame).sched = (faulted .noReading (failedWith .timeout)).sched ∧
    (finished goodFrame).free = (faulted .noReading (failedWith .timeout)).free ∧
    (finished goodFrame).cfg.wf = true ∧ busy (finished goodFrame) = false ∧
    busy (faulted .noReading (failedWith .timeout)) = false ∧
    (nextOf (exec .start (finished goodFrame))).isSome = true ∧
    (nextOf (exec .start (faulted .noReading (failedWith .timeout)))).isSome = true := by decide

/-- A sensor at the edge of every bound: a response low of 100 and high of 101, and bits of 101. -/
theorem witness_LockstepFrameIsDecoded :
    (waiting .respLow .low 1).cfg.wf = true ∧ (waiting .respLow .low 1).phase = .respLow ∧
    (waiting .respLow .low 1).mode = .input ∧ (waiting .respLow .low 1).trun = true ∧
    (waiting .respLow .low 1).tcount + 100 ≤ (waiting .respLow .low 1).cfg.tResp + 1 ∧
    1 ≤ 101 ∧ 101 ≤ (waiting .respLow .low 1).cfg.tResp + 1 ∧
    (List.replicate 40 ((1 : Nat), (101 : Nat))).length = 40 ∧
    ∀ b ∈ List.replicate 40 ((1 : Nat), (101 : Nat)),
      1 ≤ b.1 ∧ b.1 ≤ (waiting .respLow .low 1).cfg.tBit + 1 ∧
      1 ≤ b.2 ∧ b.2 ≤ (waiting .respLow .low 1).cfg.tBit + 1 := by decide

theorem witness_HostSequencesExpand : busy idle = false := by decide

theorem witness_CallYieldsTheOutcome :
    statusClass (finished goodFrame) = .ready ∧ statusClass (finished badFrame) ≠ .ready ∧
    (finished goodFrame).Inv ∧ (finished goodFrame).ended :=
  ⟨by decide, by decide, by constructor <;> decide, .inl rfl⟩

end Sys2Proof.Tests
end

/-! ## The scope (00_scope.md)

WF1 to WF6 in microseconds are the cross-multiplied checks of `Config.wf`, and no agent's step is
refused or faults. -/

namespace Sys2Proof

/-! ### TICK_US as a fraction -/

/-- WF6's TICK_US > 0; a fraction over 0 is 0. -/
theorem Config.tickUs_pos_iff (c : Config) :
    0 < c.tickUs ↔ 0 < c.tickUsNum ∧ 0 < c.tickUsDen := by
  constructor
  · intro h
    have hn : c.tickUsNum ≠ 0 := fun h0 => by simp [Config.tickUs, h0] at h
    have hd : c.tickUsDen ≠ 0 := fun h0 => by simp [Config.tickUs, h0] at h
    exact ⟨Nat.pos_of_ne_zero hn, Nat.pos_of_ne_zero hd⟩
  · rintro ⟨hn, hd⟩
    exact div_pos (Nat.cast_pos.mpr hn) (Nat.cast_pos.mpr hd)

theorem Config.tickUs_default : ({} : Config).tickUs = 1 := by
  simp [Config.tickUs]

/-- A lower bound of `us` µs on `n` ticks, both sides times the denominator. -/
theorem Config.le_mul_tickUs_iff {c : Config} (hd : 0 < c.tickUsDen) (us n : ℕ) :
    (us : ℚ) ≤ n * c.tickUs ↔ us * c.tickUsDen ≤ n * c.tickUsNum := by
  have hd' : (0 : ℚ) < c.tickUsDen := Nat.cast_pos.mpr hd
  rw [Config.tickUs, ← mul_div_assoc, le_div_iff₀ hd']
  exact_mod_cast Iff.rfl

/-- An upper bound of `us` µs on `n` ticks, both sides times the denominator. -/
theorem Config.mul_tickUs_le_iff {c : Config} (hd : 0 < c.tickUsDen) (us n : ℕ) :
    n * c.tickUs ≤ (us : ℚ) ↔ n * c.tickUsNum ≤ us * c.tickUsDen := by
  have hd' : (0 : ℚ) < c.tickUsDen := Nat.cast_pos.mpr hd
  rw [Config.tickUs, ← mul_div_assoc, div_le_iff₀ hd']
  exact_mod_cast Iff.rfl

/-! ### Well-formed configurations in microseconds -/

/-- WF1 to WF6 as 00_scope.md R9 writes them: the hold times in µs. -/
def Config.WfInMicroseconds (c : Config) : Prop :=
  (18000 : ℚ) ≤ c.tStartLow * c.tickUs ∧
  (20 : ℚ) ≤ c.tStartHigh * c.tickUs ∧ c.tStartHigh * c.tickUs ≤ (40 : ℚ) ∧
  c.tThresh < c.tBit ∧
  max c.tResp c.tBit < 2 ^ c.timerBits - 1 ∧
  max c.tStartLow c.tStartHigh ≤ 2 ^ c.timerBits - 1 ∧
  0 < c.tickUs ∧ 1 ≤ c.timerBits

/-- The checks of WF1 to WF6 as inequalities between natural numbers. -/
theorem Config.wf_iff (c : Config) :
    c.wf = true ↔
      18000 * c.tickUsDen ≤ c.tStartLow * c.tickUsNum ∧
      20 * c.tickUsDen ≤ c.tStartHigh * c.tickUsNum ∧
      c.tStartHigh * c.tickUsNum ≤ 40 * c.tickUsDen ∧
      c.tThresh < c.tBit ∧
      max c.tResp c.tBit < 2 ^ c.timerBits - 1 ∧
      max c.tStartLow c.tStartHigh ≤ 2 ^ c.timerBits - 1 ∧
      (0 < c.tickUsNum ∧ 0 < c.tickUsDen) ∧ 1 ≤ c.timerBits := by
  simp only [Config.wf, Config.wf1, Config.wf2, Config.wf3, Config.wf4, Config.wf5, Config.wf6,
    Bool.and_eq_true, decide_eq_true_eq, and_assoc]

/-- The model's check is R9's: with a denominator above 0 each bound in µs is its cross-multiplied
form, and over a denominator 0 both sides fail WF6. -/
theorem Config.wf_iff_wfInMicroseconds (c : Config) : c.wf = true ↔ c.WfInMicroseconds := by
  rw [Config.wf_iff, Config.WfInMicroseconds, Config.tickUs_pos_iff]
  by_cases hd : 0 < c.tickUsDen
  · have h18000 := Config.le_mul_tickUs_iff hd 18000 c.tStartLow
    have h20 := Config.le_mul_tickUs_iff hd 20 c.tStartHigh
    have h40 := Config.mul_tickUs_le_iff hd 40 c.tStartHigh
    rw [← h18000, ← h20, ← h40]
    simp only [Nat.cast_ofNat]
  · simp only [hd, and_false, false_and]

namespace Machine

/-! ### Every step under a well-formed configuration has a next state -/

theorem exec_has_next (i : Instr) (s : State) : ∃ t, exec i s = .next t := by
  cases i <;> exact ⟨_, rfl⟩

theorem runEvent_has_next (e : Event) (s : State) : ∃ t, runEvent e s = .next t := by
  cases e with
  | host w =>
    cases h : decode w with
    | ok i => rw [runEvent_host_ok h]; exact exec_has_next i s
    | error r => exact ⟨_, runEvent_host_illegal h⟩
  | engine | clock | sensor l | reset => exact ⟨_, rfl⟩

theorem step_has_next_of_wf {s : State} (h : s.cfg.wf = true) : ∃ t, step s = .next t := by
  rw [step_of_wf h]
  exact runEvent_has_next _ _

theorem step_refused_of_not_wf {s : State} (h : ¬ s.cfg.wf = true) :
    step s = .refused .illFormedConfig := if_neg h

/-- Settles O2: R9's conditions in µs are the check `step` makes before any agent's step, and every
agent's step has a next state. -/
theorem illFormedConfigurationHasNoRun : Obligations.IllFormedConfigurationHasNoRun := by
  refine ⟨fun s => ⟨fun h => ?_, fun h => ?_⟩,
    rfl, rfl, rfl, rfl, rfl, Config.tickUs_default, rfl, by decide⟩
  · exact step_has_next_of_wf (s.cfg.wf_iff_wfInMicroseconds.mpr h)
  · exact step_refused_of_not_wf (mt s.cfg.wf_iff_wfInMicroseconds.mp h)

end Machine

end Sys2Proof

/-! ## CLASS, ERR and busy (10_state.md R30, R31, R33)

Each flag's value in each kind of state, for proofs to cite instead of unfolding the flag. -/

namespace Sys2Proof.Machine

/-! ### busy -/

/-- The six states of a running cycle (the complement is `busy_eq_false_iff`). -/
theorem busy_iff_mem {s : State} :
    busy s = true ↔
      s.phase ∈ [Phase.startLow, .startHigh, .respLow, .respHigh, .bitLow, .bitHigh] := by
  unfold busy
  cases s.phase <;> simp

theorem Phase.mem_cycle_iff_code {p : Phase} :
    p ∈ [Phase.startLow, .startHigh, .respLow, .respHigh, .bitLow, .bitHigh] ↔
      1 ≤ p.code.toNat ∧ p.code.toNat ≤ 6 := by
  cases p <;> decide

/-- R33 over the codes of STATE. -/
theorem busy_iff_code {s : State} :
    busy s = true ↔ 1 ≤ s.phase.code.toNat ∧ s.phase.code.toNat ≤ 6 :=
  busy_iff_mem.trans Phase.mem_cycle_iff_code

/-! ### CLASS -/

theorem statusClass_idle {s : State} (h : s.phase = .idle) : statusClass s = .idle := by
  simp [statusClass, h]

/-- CLASS is Busy exactly while the engine is busy. -/
theorem statusClass_eq_busy_iff {s : State} : statusClass s = .busy ↔ busy s = true := by
  unfold statusClass busy
  cases s.phase with
  | done => cases checksumOk s.buf <;> simp
  | idle | startLow | startHigh | respLow | respHigh | bitLow | bitHigh | failed => simp

theorem statusClass_done_bad {s : State} (h : s.phase = .done) (hc : checksumOk s.buf = false) :
    statusClass s = .error := by
  simp [statusClass, h, hc]

theorem statusClass_failed {s : State} (h : s.phase = .failed) : statusClass s = .error := by
  simp [statusClass, h]

/-! ### ERR -/

theorem errField_idle {s : State} (h : s.phase = .idle) : errField s = 0#2 := by
  simp [errField, h]

theorem errField_busy {s : State} (h : busy s = true) : errField s = 0#2 := by
  unfold busy at h
  unfold errField
  cases hp : s.phase with
  | startLow | startHigh | respLow | respHigh | bitLow | bitHigh => rfl
  | idle | done | failed => simp [hp] at h

theorem errField_done_good {s : State} (h : s.phase = .done) (hc : checksumOk s.buf = true) :
    errField s = 0#2 := by
  simp [errField, h, hc]

theorem errField_done_bad {s : State} (h : s.phase = .done) (hc : checksumOk s.buf = false) :
    errField s = 3#2 := by
  simp [errField, h, hc]

theorem errField_failed {s : State} (h : s.phase = .failed) : errField s = s.errk.code := by
  simp [errField, h]

/-- Settles O22: each clause is the flags' values in one kind of state, with the codes of CLASS and
ERRK. -/
theorem classAndErrFollowTheState : Obligations.ClassAndErrFollowTheState := by
  intro s
  have hclass {c : StatusClass} (h : statusClass s = c) : (statusClass s).code = c.code :=
    congrArg StatusClass.code h
  have herrk {k : Errk} (h : s.phase = .failed) (hk : s.errk = k) : errField s = k.code := by
    rw [errField_failed h, hk]
  refine ⟨busy_iff_code, fun h => ?idle, fun h => ?busy, fun h hc => ?good, fun h hc => ?bad,
    fun h => ?failed⟩
  case idle => exact ⟨hclass (statusClass_idle h), errField_idle h⟩
  case busy =>
    have hb : busy s = true := busy_iff_mem.mpr h
    exact ⟨hclass (statusClass_eq_busy_iff.mpr hb), errField_busy hb⟩
  case good => exact ⟨hclass (ready_iff.mpr ⟨h, hc⟩), errField_done_good h hc⟩
  case bad => exact ⟨hclass (statusClass_done_bad h hc), errField_done_bad h hc⟩
  case failed => exact ⟨hclass (statusClass_failed h), herrk h, herrk h, herrk h⟩

end Sys2Proof.Machine

/-! ## The data buffer and the result window (20_memory.md R61, R62, R64)

The frame as one number, and why a Reading cannot change under a host that still sees
CLASS = Ready. -/

namespace Sys2Proof.Machine

/-! ### The frame as one number -/

/-- Byte k of the buffer is byte 4 - k of the number, the first byte on the wire being the most
significant. -/
theorem Buffer.frame_getLsbD (B : Buffer) {k j : Nat} (hk : k < 5) (hj : j < 8) :
    B.frame.getLsbD (j + 8 * (4 - k)) = (B.get k).getLsbD j := by
  simp only [Buffer.frame, BitVec.getLsbD_append]
  have hpast {n : Nat} (hn : 8 ≤ n) : ¬ j + n < 8 := by omega
  match k, hk with
  | 0, _ | 1, _ | 2, _ | 3, _ | 4, _ => simp [Buffer.get, hj, hpast]

/-- B[k] counts the five bytes in the order of the frame. -/
theorem Buffer.get_eq_getD (B : Buffer) (k : Nat) :
    B.get k = [B.humidityInt, B.humidityFrac, B.tempInt, B.tempFrac, B.checksum].getD k 0 := by
  match k with
  | 0 | 1 | 2 | 3 | 4 | _ + 5 => rfl

/-- Settles O34: stream bit i stands in byte i / 8 at bit 7 - i % 8, which is bit 39 - i of the
number. -/
theorem frameIsBigEndian : Obligations.FrameIsBigEndian := by
  intro B i hi
  have hpos : 39 - i = (7 - i % 8) + 8 * (4 - i / 8) := by omega
  constructor
  · rw [hpos, B.frame_getLsbD (by omega) (by omega), Buffer.streamBit]
  · rw [Buffer.streamBit, B.get_eq_getD]

/-! ### Who writes STATE and B -/

/-- A line command keeps STATE and B where its own effect `o` does: the ownership fault writes
neither. -/
theorem owned_keeps_phase_and_buf {s o : State} (hp : o.phase = s.phase) (hb : o.buf = s.buf) :
    (if busy s then raiseFault .lineOwnedByDriver s else o).phase = s.phase ∧
      (if busy s then raiseFault .lineOwnedByDriver s else o).buf = s.buf := by
  split
  · exact ⟨rfl, rfl⟩
  · exact ⟨hp, hb⟩

/-- START is the one command that writes STATE or B. -/
theorem exec_keeps_phase_and_buf {i : Instr} {s t : State} (h : exec i s = .next t)
    (hi : i ≠ .start) : t.phase = s.phase ∧ t.buf = s.buf := by
  cases i with
  | setmode | rsttmr | elapsed | tmrctl => cases h; exact owned_keeps_phase_and_buf rfl rfl
  | write v =>
    rw [exec_write] at h
    cases h
    exact owned_keeps_phase_and_buf (by split <;> rfl) (by split <;> rfl)
  | read => cases h; exact owned_keeps_phase_and_buf (afterPin_phase s) (afterPin_buf s)
  | start => exact absurd rfl hi
  | rdstat | rdfault => cases h; exact ⟨rfl, rfl⟩
  | rdbyte k => cases h; split <;> exact ⟨rfl, rfl⟩

/-- While the engine is not busy, only START and reset write STATE or B, and neither leaves
STATE = Done. -/
theorem runEvent_not_busy_keeps_or_not_done {e : Event} {s t : State} (hb : busy s = false)
    (h : runEvent e s = .next t) : t.phase = s.phase ∧ t.buf = s.buf ∨ t.phase ≠ .done := by
  cases e with
  | host w =>
    cases hd : decode w with
    | error r =>
      rw [runEvent_host_illegal hd] at h
      cases h
      exact .inl ⟨rfl, rfl⟩
    | ok i =>
      rw [runEvent_host_ok hd] at h
      by_cases hi : i = .start
      · subst hi
        rw [exec_start, hb] at h
        cases h
        exact .inr (by simp)
      · exact .inl (exec_keeps_phase_and_buf h hi)
  | engine =>
    cases h
    exact .inl (by simp [engineStep_quiescent hb])
  | clock => cases h; exact .inl ⟨by simp, by simp⟩
  | sensor l => cases h; exact .inl ⟨by simp, by simp⟩
  | reset => cases h; exact .inr (by simp)

/-- Taking the next agent's step off the schedule writes neither STATE nor B. -/
theorem nextEvent_keeps_phase_and_buf (s : State) :
    (nextEvent s).2.phase = s.phase ∧ (nextEvent s).2.buf = s.buf := by
  rcases nextEvent_cases s with ⟨e, es, -, h⟩ | ⟨-, h⟩ <;> rw [h] <;> exact ⟨rfl, rfl⟩

/-- A step from Ready to Ready keeps B. -/
theorem step_ready_buf {s t : State} (hs : statusClass s = .ready) (h : step s = .next t)
    (ht : statusClass t = .ready) : t.buf = s.buf := by
  obtain ⟨-, hrun⟩ := step_next h
  obtain ⟨hphase, hbuf⟩ := nextEvent_keeps_phase_and_buf s
  have hdone : (nextEvent s).2.phase = .done := hphase.trans (ready_iff.mp hs).1
  have hidle : busy (nextEvent s).2 = false := busy_eq_false_iff.mpr (.inr (.inl hdone))
  rcases runEvent_not_busy_keeps_or_not_done hidle hrun with ⟨-, hkept⟩ | hleft
  · exact hkept.trans hbuf
  · exact absurd (ready_iff.mp ht).1 hleft

/-! ### Runs -/

/-- The first step of a run that does not stop. -/
theorem core_run_succ_cases {k : Nat} {s t : State}
    (h : Host.Core.run Sys2Proof.core (k + 1) s = .next t) :
    ∃ u, step s = .next u ∧ Host.Core.run Sys2Proof.core k u = .next t := by
  cases hu : step s with
  | next u => exact ⟨u, rfl, (core_run_succ_next hu k).symm.trans h⟩
  | fault r => cases r
  | refused r =>
    have hr : Sys2Proof.core.step s = .refused r := hu
    simp only [Host.Core.run, hr] at h
    cases h

/-- B is the same at both ends of a run that stays Ready. -/
theorem run_ready_buf {k : Nat} {s t : State}
    (hready : ∀ j ≤ k, ∃ u, Host.Core.run Sys2Proof.core j s = .next u ∧ statusClass u = .ready)
    (h : Host.Core.run Sys2Proof.core k s = .next t) : t.buf = s.buf := by
  induction k generalizing s with
  | zero => cases h; rfl
  | succ k ih =>
    obtain ⟨u, hstep, hrest⟩ := core_run_succ_cases h
    have hu : ∀ j ≤ k, ∃ v, Host.Core.run Sys2Proof.core j u = .next v ∧ statusClass v = .ready :=
      fun j hj => core_run_succ_next hstep j ▸ hready (j + 1) (by omega)
    obtain ⟨_, hs0, hs⟩ := hready 0 (by omega)
    cases hs0
    obtain ⟨_, hu0, hu1⟩ := hu 0 (by omega)
    cases hu0
    exact (ih hu hrest).trans (step_ready_buf hs hstep hu1)

/-- Settles O40: no step of a run that stays Ready writes B, so RDBYTE at the end, where CLASS is
Ready too, reads the window of the start. -/
theorem readyReadingIsAtomic : Obligations.ReadyReadingIsAtomic := by
  intro k s t hready h
  have hbuf : t.buf = s.buf := run_ready_buf hready h
  obtain ⟨u, hu, ht⟩ := hready k le_rfl
  cases h.symm.trans hu
  refine ⟨hbuf, fun i => ?_⟩
  rw [exec_rdbyte, if_pos ht, ← hbuf, answer]

end Sys2Proof.Machine

/-! ## The decoder and the words it takes (30_encoding.md R92 to R95)

A command is decoded from its own word alone, and a row of the opcode map is its operation with the
reserved operand bits at 0. -/

namespace Sys2Proof

/-! ### The words of the commands -/

@[simp] theorem modeBit_modeOfBit (b : Bool) : modeBit (modeOfBit b) = b := by cases b <;> rfl

@[simp] theorem levelBit_levelOfBit (b : Bool) : levelBit (levelOfBit b) = b := by cases b <;> rfl

theorem decode_encode (i : Instr) : decode (encode i) = .ok i := by
  cases i with
  | setmode m => cases m <;> rfl
  | write v => cases v <;> rfl
  | tmrctl s => cases s <;> rfl
  | rdbyte k => revert k; decide
  | read | rsttmr | elapsed | start | rdstat | rdfault => rfl

theorem decode_of_encode_eq {w : Byte} {i : Instr} (h : encode i = w) : decode w = .ok i :=
  h ▸ decode_encode i

/-- A word is its bits 7:1 and its operand cmd[0]. -/
theorem and_FE_or_bit0 : ∀ w : Byte,
    w &&& 0xFE#8 ||| (BitVec.ofBool (w.getLsbD 0)).setWidth 8 = w := by decide

/-- A word is its bits 7:2 and its operand cmd[1:0]. -/
theorem and_FC_or_low2 : ∀ w : Byte,
    w &&& 0xFC#8 ||| (w.extractLsb' 0 2).setWidth 8 = w := by decide

theorem encode_setmode_of_hits {w : Byte} (h : w &&& 0xFE#8 = 0x10#8) :
    encode (.setmode (modeOfBit (w.getLsbD 0))) = w := by
  rw [encode, modeBit_modeOfBit, ← h, and_FE_or_bit0]

theorem encode_write_of_hits {w : Byte} (h : w &&& 0xFE#8 = 0x20#8) :
    encode (.write (levelOfBit (w.getLsbD 0))) = w := by
  rw [encode, levelBit_levelOfBit, ← h, and_FE_or_bit0]

theorem encode_tmrctl_of_hits {w : Byte} (h : w &&& 0xFE#8 = 0x60#8) :
    encode (.tmrctl (w.getLsbD 0)) = w := by
  rw [encode, ← h, and_FE_or_bit0]

theorem encode_rdbyte_of_hits {w : Byte} (h : w &&& 0xFC#8 = 0xA0#8) :
    encode (.rdbyte (w.extractLsb' 0 2)) = w := by
  rw [encode, ← h, and_FC_or_low2]

/-! ### Operands from the word (R93) -/

/-- R93 read off the word: the fixed and reserved bits of a command's row and where its operand
stands. -/
def AssembledFrom (w : Byte) (i : Instr) : Prop :=
  (w &&& 0xFE#8 = 0x10#8 ∧ i = .setmode (modeOfBit (w.getLsbD 0))) ∨
  (w &&& 0xFE#8 = 0x20#8 ∧ i = .write (levelOfBit (w.getLsbD 0))) ∨
  (w = 0x30#8 ∧ i = .read) ∨
  (w = 0x40#8 ∧ i = .rsttmr) ∨
  (w = 0x50#8 ∧ i = .elapsed) ∨
  (w &&& 0xFE#8 = 0x60#8 ∧ i = .tmrctl (w.getLsbD 0)) ∨
  (w = 0x80#8 ∧ i = .start) ∨
  (w = 0x90#8 ∧ i = .rdstat) ∨
  (w &&& 0xFC#8 = 0xA0#8 ∧ i = .rdbyte (w.extractLsb' 0 2)) ∨
  (w = 0xB0#8 ∧ i = .rdfault)

/-- A test of the decoder's chain: its own command, or whatever the rest of the chain answers. -/
theorem ite_ok_cases {ε α : Type} {p : Prop} [Decidable p] {a i : α} {rest : Except ε α}
    (h : (if p then .ok a else rest) = .ok i) : (p ∧ i = a) ∨ rest = .ok i := by
  split at h
  · next hp => exact .inl ⟨hp, (Except.ok.inj h).symm⟩
  · exact .inr h

/-- The disjuncts stand in the order of the decoder's tests. -/
theorem assembledFrom_of_decode {w : Byte} {i : Instr} (h : decode w = .ok i) :
    AssembledFrom w i := by
  unfold decode at h
  iterate 9
    refine (ite_ok_cases h).imp_right fun hrest => ?_
    replace h := hrest
  rcases ite_ok_cases h with hlast | hillegal
  · exact hlast
  · split at hillegal <;> cases hillegal

theorem encode_of_assembledFrom {w : Byte} {i : Instr} (h : AssembledFrom w i) : encode i = w := by
  rcases h with ⟨h, rfl⟩ | ⟨h, rfl⟩ | ⟨rfl, rfl⟩ | ⟨rfl, rfl⟩ | ⟨rfl, rfl⟩ | ⟨h, rfl⟩ | ⟨rfl, rfl⟩ |
    ⟨rfl, rfl⟩ | ⟨h, rfl⟩ | ⟨rfl, rfl⟩
  · exact encode_setmode_of_hits h
  · exact encode_write_of_hits h
  · exact rfl
  · exact rfl
  · exact rfl
  · exact encode_tmrctl_of_hits h
  · exact rfl
  · exact rfl
  · exact encode_rdbyte_of_hits h
  · exact rfl

theorem encode_of_decode {w : Byte} {i : Instr} (h : decode w = .ok i) : encode i = w :=
  encode_of_assembledFrom (assembledFrom_of_decode h)

/-- Settles O3: a decoded command comes from the test of its row, and a word that fits a row is the
encoding of that row's command with the word's operand. -/
theorem operandsAreAssembledFromTheWord : Obligations.OperandsAreAssembledFromTheWord := fun _ _ =>
  ⟨assembledFrom_of_decode, fun h => decode_of_encode_eq (encode_of_assembledFrom h)⟩

/-! ### The rows of the opcode map -/

theorem instr_tableRow (i : Instr) : Laws.TableRow.Statement i := by
  cases i with
  | setmode m => exact Laws.TableRow.setmode m
  | write v => exact Laws.TableRow.write v
  | read => exact Laws.TableRow.read
  | rsttmr => exact Laws.TableRow.rsttmr
  | elapsed => exact Laws.TableRow.elapsed
  | tmrctl s => exact Laws.TableRow.tmrctl s
  | start => exact Laws.TableRow.start
  | rdstat => exact Laws.TableRow.rdstat
  | rdbyte k => exact Laws.TableRow.rdbyte k
  | rdfault => exact Laws.TableRow.rdfault

theorem OpRow.hits_iff {r : OpRow} {w : Byte} : r.hits w = true ↔ w &&& r.mask = r.pat := by
  simp [OpRow.hits]

theorem exists_encode_of_hits {r : OpRow} (hr : r ∈ opcodeMap) {w : Byte} (h : r.hits w = true) :
    ∃ i, encode i = w := by
  rw [OpRow.hits_iff] at h
  have hexact {p : Byte} (h : w &&& 0xFF#8 = p) : p = w := by
    rw [← h]; exact BitVec.and_allOnes
  simp only [opcodeMap, List.mem_cons, List.not_mem_nil, or_false] at hr
  rcases hr with rfl | rfl | rfl | rfl | rfl | rfl | rfl | rfl | rfl | rfl
  · exact ⟨_, encode_setmode_of_hits h⟩
  · exact ⟨_, encode_write_of_hits h⟩
  · exact ⟨.read, hexact h⟩
  · exact ⟨.rsttmr, hexact h⟩
  · exact ⟨.elapsed, hexact h⟩
  · exact ⟨_, encode_tmrctl_of_hits h⟩
  · exact ⟨.start, hexact h⟩
  · exact ⟨.rdstat, hexact h⟩
  · exact ⟨_, encode_rdbyte_of_hits h⟩
  · exact ⟨.rdfault, hexact h⟩

/-- The decoder takes exactly the words that a row of the opcode map matches. -/
theorem exists_decode_iff_hits {w : Byte} :
    (∃ i, decode w = .ok i) ↔ ∃ r ∈ opcodeMap, r.hits w = true := by
  constructor
  · rintro ⟨i, hi⟩
    obtain ⟨hmem, hhits⟩ := instr_tableRow i
    exact ⟨i.row, hmem, encode_of_decode hi ▸ hhits⟩
  · rintro ⟨r, hr, h⟩
    obtain ⟨i, hi⟩ := exists_encode_of_hits hr h
    exact ⟨i, decode_of_encode_eq hi⟩

/-! ### Operation and reserved bits (R93, R94) -/

/-- The two fields of a word, `op` and `arg`, make it up. -/
theorem opField_append_arg (w : Byte) : opField w ++ w.extractLsb' 0 4 = w :=
  (BitVec.extractLsb'_append_extractLsb'_eq_extractLsb' rfl).trans BitVec.extractLsb'_eq_self

theorem append_eq_append_iff {v w : Nat} {a c : BitVec v} {b d : BitVec w} :
    a ++ b = c ++ d ↔ a = c ∧ b = d := by
  constructor
  · intro h
    have hl := congrArg (BitVec.extractLsb' w v) h
    have hr := congrArg (BitVec.extractLsb' 0 w) h
    rw [BitVec.extractLsb'_append_eq_left, BitVec.extractLsb'_append_eq_left] at hl
    rw [BitVec.extractLsb'_append_eq_right, BitVec.extractLsb'_append_eq_right] at hr
    exact ⟨hl, hr⟩
  · rintro ⟨rfl, rfl⟩
    rfl

/-- A mask that fixes the whole operation compares the two fields apart. -/
theorem and_append_eq_iff {w : Byte} {m op : BitVec 4} :
    w &&& (0xF#4 ++ m) = op ++ 0#4 ↔ opField w = op ∧ w.extractLsb' 0 4 &&& m = 0#4 := by
  have hop : opField w &&& 0xF#4 = opField w := BitVec.and_allOnes
  rw [← append_eq_append_iff, ← hop, ← BitVec.and_append, opField_append_arg]

/-- Every row of the map fixes its operation and asks 0 of its reserved bits. -/
theorem opcodeMap_fields : ∀ r ∈ opcodeMap,
    0xF#4 ++ reservedBits r.pat = r.mask ∧ opField r.pat ++ 0#4 = r.pat := by decide

theorem reservedBits_congr {v w : Byte} (h : opField v = opField w) :
    reservedBits v = reservedBits w := by
  rw [reservedBits, reservedBits, h]

theorem hits_iff_fields {r : OpRow} (hr : r ∈ opcodeMap) {w : Byte} :
    r.hits w = true ↔ opField w = opField r.pat ∧ reservedZero w = true := by
  obtain ⟨hmask, hpat⟩ := opcodeMap_fields r hr
  rw [OpRow.hits_iff, ← hmask, ← hpat, and_append_eq_iff, hpat, reservedZero, decide_eq_true_eq]
  exact and_congr_right fun hop => by rw [reservedBits_congr hop]

/-- The assigned operations are those of the map's rows. -/
theorem opAssigned_iff_row {w : Byte} :
    opAssigned w = true ↔ ∃ r ∈ opcodeMap, opField w = opField r.pat := by
  unfold opAssigned
  generalize opField w = op
  revert op
  decide

/-- The words that decode are the well-formed ones. -/
theorem exists_decode_iff_wordWf {w : Byte} : (∃ i, decode w = .ok i) ↔ wordWf w = true := by
  rw [exists_decode_iff_hits, wordWf, Bool.and_eq_true, opAssigned_iff_row]
  constructor
  · rintro ⟨r, hr, h⟩
    obtain ⟨hop, hres⟩ := (hits_iff_fields hr).mp h
    exact ⟨⟨r, hr, hop⟩, hres⟩
  · rintro ⟨⟨r, hr, hop⟩, hres⟩
    exact ⟨r, hr, (hits_iff_fields hr).mpr ⟨hop, hres⟩⟩

/-! ### The illegal words (R94, R95) -/

/-- The ten commands with every operand, in the order of their words. -/
def allCommands : List Instr :=
  [.setmode .output, .setmode .input, .write .low, .write .high, .read, .rsttmr, .elapsed,
   .tmrctl false, .tmrctl true, .start, .rdstat, .rdbyte 0, .rdbyte 1, .rdbyte 2, .rdbyte 3, .rdfault]

theorem mem_allCommands (i : Instr) : i ∈ allCommands := by
  cases i with
  | setmode m => cases m <;> decide
  | write v => cases v <;> decide
  | tmrctl s => cases s <;> decide
  | rdbyte k => revert k; decide
  | read | rsttmr | elapsed | start | rdstat | rdfault => decide

theorem exists_decode_iff_mem {w : Byte} :
    (∃ i, decode w = .ok i) ↔ w ∈ allCommands.map encode := by
  rw [List.mem_map]
  constructor
  · rintro ⟨i, hi⟩
    exact ⟨i, mem_allCommands i, encode_of_decode hi⟩
  · rintro ⟨i, -, hi⟩
    exact ⟨i, decode_of_encode_eq hi⟩

/-- The 16 legal words. -/
theorem allCommands_map_encode : allCommands.map encode =
    [0x10, 0x11, 0x20, 0x21, 0x30, 0x40, 0x50, 0x60, 0x61, 0x80, 0x90, 0xA0, 0xA1, 0xA2, 0xA3, 0xB0] :=
  rfl

/-- The gaps between the legal words are R94's eleven ranges. -/
theorem not_exists_decode_iff_ranges {w : Byte} :
    (¬ ∃ i, decode w = .ok i) ↔
      (w.toNat ≤ 0x0F ∨ (0x12 ≤ w.toNat ∧ w.toNat ≤ 0x1F) ∨ (0x22 ≤ w.toNat ∧ w.toNat ≤ 0x2F) ∨
        (0x31 ≤ w.toNat ∧ w.toNat ≤ 0x3F) ∨ (0x41 ≤ w.toNat ∧ w.toNat ≤ 0x4F) ∨
        (0x51 ≤ w.toNat ∧ w.toNat ≤ 0x5F) ∨ (0x62 ≤ w.toNat ∧ w.toNat ≤ 0x7F) ∨
        (0x81 ≤ w.toNat ∧ w.toNat ≤ 0x8F) ∨ (0x91 ≤ w.toNat ∧ w.toNat ≤ 0x9F) ∨
        (0xA4 ≤ w.toNat ∧ w.toNat ≤ 0xAF) ∨ 0xB1 ≤ w.toNat) := by
  simp only [exists_decode_iff_mem, allCommands_map_encode, List.mem_cons, List.not_mem_nil, or_false,
    ← BitVec.toNat_inj, BitVec.reduceToNat, BitVec.ofNat_eq_ofNat]
  omega

theorem toOption_decode_eq_none_iff {w : Byte} :
    (decode w).toOption = none ↔ ¬ ∃ i, decode w = .ok i := by
  cases decode w <;> simp [Except.toOption]

/-- R95: of the 256 words, the eleven ranges hold 240. -/
theorem illegal_words_count :
    ((List.range 256).filter fun n => (decode (BitVec.ofNat 8 n)).toOption = none).length = 240 := by
  simp only [toOption_decode_eq_none_iff, not_exists_decode_iff_ranges, BitVec.toNat_ofNat]
  decide +kernel

/-- Settles O4: the illegal words are the complement of the well-formed ones and of the 16 encodings,
and the port answers each with the one fault. -/
theorem illegalWordsOnlyFault : Obligations.IllegalWordsOnlyFault := by
  refine ⟨fun w => ?fields, fun w => ?ranges, illegal_words_count, fun w s h => ?faults⟩
  case fields =>
    rw [← not_exists, exists_decode_iff_wordWf, wordWf, Bool.and_eq_true, not_and_or]
    simp only [opAssigned, reservedZero, decide_eq_true_eq, not_not, ne_eq]
  case ranges => rw [← not_exists, not_exists_decode_iff_ranges]
  case faults =>
    cases hd : decode w with
    | ok i => exact absurd hd (h i)
    | error r => exact Machine.runEvent_host_illegal hd

end Sys2Proof

/-! ## The host's sequences (30_encoding.md R98)

A step of a sequence is its command's meaning and the move on what that returned. -/

namespace Sys2Proof.Machine

/-! ### CLASS in STATUS -/

theorem statusClassBits_statusWord (s : State) :
    statusClassBits (statusWord s) = (statusClass s).code := by
  rw [statusClassBits, statusWord, BitVec.extractLsb'_append_eq_of_le (by decide),
    BitVec.extractLsb'_append_eq_right]

theorem StatusClass.code_eq_one_iff {c : StatusClass} : c.code = 1 ↔ c = .busy := by
  cases c <;> decide

/-- What a wait for the end of the cycle tests in a STATUS word. -/
theorem statusClassBits_ne_one_iff {s : State} :
    statusClassBits (statusWord s) ≠ 1 ↔ ¬ busy s = true := by
  rw [statusClassBits_statusWord, ne_eq, StatusClass.code_eq_one_iff, statusClass_eq_busy_iff]

theorem waitIdle_advance_status (s : State) :
    HostSeq.waitIdle.advance (some (.status (statusWord s))) =
      if busy s then .waitIdle else .exit none := by
  have hwait : HostSeq.waitIdle.advance (some (.status (statusWord s))) =
      if statusClassBits (statusWord s) ≠ 1 then .exit none else .waitIdle := rfl
  simp only [hwait, statusClassBits_ne_one_iff, ite_not]

theorem cycleWait_advance_status (s : State) :
    HostSeq.cycleWait.advance (some (.status (statusWord s))) =
      if busy s then .cycleWait else .cycleRead := by
  have hwait : HostSeq.cycleWait.advance (some (.status (statusWord s))) =
      if statusClassBits (statusWord s) ≠ 1 then .cycleRead else .cycleWait := rfl
  simp only [hwait, statusClassBits_ne_one_iff, ite_not]

/-! ### One step of a sequence -/

theorem exec_rsttmr_idle {s : State} (h : busy s = false) :
    exec .rsttmr s = .next { s with tcount := 0, resp := none } := by
  rw [exec_rsttmr, h]
  rfl

theorem exec_elapsed_idle {s : State} (h : busy s = false) :
    exec .elapsed s = .next { s with resp := some (.count s.tcount) } := by
  rw [exec_elapsed, h]
  rfl

theorem exec_read_idle {s : State} (h : busy s = false) :
    exec .read s = .next { afterPin s with resp := some (.level (pin s)) } := by
  rw [exec_read, h]
  rfl

theorem HostSeq.issue_eq {q : HostSeq} {i : Instr} {s t : State} (hq : q.command = some i)
    (h : exec i s = .next t) : q.issue s = (q.advance t.resp, t) := by
  simp [HostSeq.issue, hq, h]

theorem HostSeq.issue_rdstat {q : HostSeq} (hq : q.command = some .rdstat) (s : State) :
    q.issue s = (q.advance (some (.status (statusWord s))),
      { s with resp := some (.status (statusWord s)) }) :=
  HostSeq.issue_eq hq (exec_rdstat s)

/-- Settles O47: each control point's command and what it returns there give the next control point. -/
theorem hostSequencesExpand : Obligations.HostSequencesExpand := by
  intro s
  refine ⟨?waitIdle, ⟨_, exec_start s, HostSeq.issue_eq rfl (exec_start s)⟩, ?cycleWait,
    HostSeq.issue_rdstat rfl s, fun n h => ⟨?hold, ?holdLoop⟩, fun l n h => ⟨?poll, ?pin, ?count⟩⟩
  case waitIdle => rw [HostSeq.issue_rdstat rfl, waitIdle_advance_status]
  case cycleWait => rw [HostSeq.issue_rdstat rfl, cycleWait_advance_status]
  case hold | poll => exact HostSeq.issue_eq rfl (exec_rsttmr_idle h)
  case holdLoop | count => exact HostSeq.issue_eq rfl (exec_elapsed_idle h)
  case pin => exact HostSeq.issue_eq rfl (exec_read_idle h)

end Sys2Proof.Machine

/-! ## The pin and the timer (40_line.md R120 to R126, R130)

The line commands by ownership, and which steps write TCOUNT. -/

namespace Sys2Proof.Machine

/-! ### Ownership (R120) -/

/-- While the engine owns the line, every line command is the one fault. -/
theorem exec_line_busy {i : Instr} {s : State} (hi : i.isLine = true) (h : busy s = true) :
    exec i s = .next (raiseFault .lineOwnedByDriver s) := by
  cases i with
  | setmode | write | read | rsttmr | elapsed | tmrctl =>
    simp only [exec_setmode, exec_write, exec_read, exec_rsttmr, exec_elapsed, exec_tmrctl, h,
      if_true]
  | start | rdstat | rdbyte | rdfault => cases hi

/-! ### Reserved bits of the one-bit operands (R121, R122, R126) -/

/-- The operations whose one operand is cmd[0] reserve cmd[3:1]. -/
theorem not_wordWf_of_bits_3_1 {w : Byte} (hop : opField w ∈ [0x1#4, 0x2#4, 0x6#4])
    (h : w.extractLsb' 1 3 ≠ 0#3) : ¬ wordWf w = true := by
  have hres : reservedBits w = 0xE#4 := by
    simp only [List.mem_cons, List.not_mem_nil, or_false] at hop
    rcases hop with hop | hop | hop <;> rw [reservedBits, hop] <;> rfl
  have hbits : ∀ v : Byte, v.extractLsb' 0 4 &&& 0xE#4 = 0#4 → v.extractLsb' 1 3 = 0#3 := by
    decide
  rw [wordWf, Bool.and_eq_true, reservedZero, hres, decide_eq_true_eq]
  exact fun ⟨_, hz⟩ => h (hbits w hz)

theorem runEvent_host_bits_3_1 {w : Byte} (s : State)
    (hop : opField w ∈ [0x1#4, 0x2#4, 0x6#4]) (h : w.extractLsb' 1 3 ≠ 0#3) :
    runEvent (.host w) s = .next (raiseFault .illegalCommand s) := by
  obtain ⟨-, -, -, hfault⟩ := illegalWordsOnlyFault
  exact hfault w s fun i hi => not_wordWf_of_bits_3_1 hop h (exists_decode_iff_wordWf.mp ⟨i, hi⟩)

/-! ### SETMODE and WRITE -/

theorem exec_setmode_idle {s : State} (h : busy s = false) (m : Mode) :
    exec (.setmode m) s = .next { s with mode := m, resp := none } := by
  rw [exec_setmode, h]
  rfl

theorem exec_write_idle_output {s : State} (h : busy s = false) (hm : s.mode = .output)
    (v : Level) : exec (.write v) s = .next { s with latch := v, resp := none } := by
  rw [exec_write, h, hm]
  rfl

theorem exec_write_idle_input {s : State} (h : busy s = false) (hm : s.mode = .input)
    (v : Level) : exec (.write v) s = .next (raiseFault .writeInInputMode s) := by
  rw [exec_write, h, hm]
  rfl

theorem pin_sensorStep_input {s : State} (h : s.mode = .input) (l : Level) :
    pin (sensorStep l s) = l := by
  simp [pin, sensorStep, h]

/-- Settles O10: the ownership check decides what SETMODE does, and the pin follows the new MODE. -/
theorem setmodeSwitchesTheDirection : Obligations.SetmodeSwitchesTheDirection := by
  refine ⟨rfl, rfl, fun m s => ⟨fun h => exec_setmode_idle h m, fun h => exec_line_busy rfl h,
    fun t h ht => ?pin, fun w hop => runEvent_host_bits_3_1 s (by simp [hop])⟩⟩
  case pin =>
    cases (exec_setmode_idle h m).symm.trans ht
    refine ⟨fun hm => pin_output hm, fun l u hm hu => ?_⟩
    cases hu
    exact pin_sensorStep_input hm l

/-- Settles O11: ownership is checked first, then MODE. -/
theorem writeSetsTheLatchInOutputMode : Obligations.WriteSetsTheLatchInOutputMode :=
  ⟨rfl, rfl, fun v s => ⟨fun h hm => exec_write_idle_output h hm v,
    fun h hm => exec_write_idle_input h hm v, fun h => exec_line_busy rfl h,
    fun _ hop => runEvent_host_bits_3_1 s (by simp [hop])⟩⟩

/-! ### The timer commands -/

theorem exec_tmrctl_idle {s : State} (h : busy s = false) (r : Bool) :
    exec (.tmrctl r) s = .next { s with trun := r, resp := none } := by
  rw [exec_tmrctl, h]
  rfl

/-- Settles O13: the ownership check decides between each command's one write and the fault. -/
theorem timerCommandsResetReadAndRun : Obligations.TimerCommandsResetReadAndRun :=
  ⟨rfl, rfl, rfl, rfl, fun s =>
    ⟨fun h => ⟨exec_rsttmr_idle h, exec_elapsed_idle h, exec_tmrctl_idle h⟩,
      fun h => ⟨exec_line_busy rfl h, exec_line_busy rfl h, fun _ => exec_line_busy rfl h⟩,
      fun _ hop => runEvent_host_bits_3_1 s (by simp [hop])⟩⟩

/-! ### Who writes TCOUNT (R130) -/

/-- The engine's moves from one busy state to the next. -/
def phaseAdvances : List (Phase × Phase) :=
  [(.startLow, .startHigh), (.startHigh, .respLow), (.respLow, .respHigh), (.respHigh, .bitLow),
   (.bitLow, .bitHigh), (.bitHigh, .bitLow)]

/-- A line command keeps TCOUNT where its own effect `o` does. -/
theorem owned_keeps_tcount {s o : State} (h : o.tcount = s.tcount) :
    (if busy s then raiseFault .lineOwnedByDriver s else o).tcount = s.tcount := by
  split
  · rfl
  · exact h

/-- A command whose own effect `o` has TCOUNT = 0 writes it only while not busy: the fault keeps
it. -/
theorem zeroed_unless_busy {c : FCause} {s o : State} (h : o.tcount = 0) :
    (if busy s then raiseFault c s else o).tcount = s.tcount ∨
      (if busy s then raiseFault c s else o).tcount = 0 ∧ busy s = false := by
  cases busy s with
  | true => exact .inl rfl
  | false => exact .inr ⟨h, rfl⟩

/-- Of the commands only RSTTMR and START write TCOUNT, both with 0 and only while not busy. -/
theorem exec_tcount {i : Instr} {s t : State} (h : exec i s = .next t) :
    t.tcount = s.tcount ∨ t.tcount = 0 ∧ (i = .rsttmr ∨ i = .start) ∧ busy s = false := by
  cases i with
  | setmode | elapsed | tmrctl => cases h; exact .inl (owned_keeps_tcount rfl)
  | write v =>
    rw [exec_write] at h
    cases h
    exact .inl (owned_keeps_tcount (by split <;> rfl))
  | read => cases h; exact .inl (owned_keeps_tcount (afterPin_tcount s))
  | rsttmr =>
    cases h
    exact (zeroed_unless_busy rfl).imp_right fun ⟨h0, hb⟩ => ⟨h0, .inl rfl, hb⟩
  | start =>
    cases h
    exact (zeroed_unless_busy rfl).imp_right fun ⟨h0, hb⟩ => ⟨h0, .inr rfl, hb⟩
  | rdstat | rdfault => cases h; exact .inl rfl
  | rdbyte k => cases h; exact .inl (by split <;> rfl)

/-- Of the words on the port only those of RSTTMR and START write TCOUNT. -/
theorem runEvent_host_tcount {w : Byte} {s t : State} (h : runEvent (.host w) s = .next t) :
    t.tcount = s.tcount ∨ t.tcount = 0 ∧ (w = 0x40#8 ∨ w = 0x80#8) ∧ busy s = false := by
  cases hd : decode w with
  | error r =>
    rw [runEvent_host_illegal hd] at h
    cases h
    exact .inl rfl
  | ok i =>
    rw [runEvent_host_ok hd] at h
    have hword {j : Instr} (hj : i = j) : w = encode j := hj ▸ (encode_of_decode hd).symm
    exact (exec_tcount h).imp_right fun ⟨h0, hi, hb⟩ => ⟨h0, hi.imp hword hword, hb⟩

/-- The engine restarts the count where it moves to the next busy state; entering Done or Failed, it
leaves TCOUNT as it is. -/
theorem engineStep_tcount (s : State) :
    (engineStep s).tcount = s.tcount ∨
      (engineStep s).tcount = 0 ∧ (s.phase, (engineStep s).phase) ∈ phaseAdvances := by
  rcases engineStep_cases s with ⟨-, h⟩ | ⟨-, -, h⟩ | ⟨-, hmove⟩
  · exact .inl (by rw [h])
  · exact .inl (by rw [h, afterPin_tcount])
  · cases hmove with
    | holdLow h _ e | holdHigh h _ e | respRise h _ e | respFall h _ e | bitRise h _ e
    | bitFall h _ _ e => exact .inr (by rw [e, h]; exact ⟨rfl, by simp [phaseAdvances]⟩)
    | lastFall _ _ _ e | noResponse _ _ e | timeout _ _ e =>
      exact .inl (by rw [e]; exact afterPin_tcount s)

/-- Every step but the clock's that changes TCOUNT writes 0 and is one of R130's writers. -/
theorem runEvent_tcount {e : Event} {s t : State} (he : e ≠ .clock) (h : runEvent e s = .next t)
    (hne : t.tcount ≠ s.tcount) :
    t.tcount = 0 ∧ (e = .reset ∨ ((e = .host 0x40#8 ∨ e = .host 0x80#8) ∧ busy s = false) ∨
      (e = .engine ∧ (s.phase, t.phase) ∈ phaseAdvances)) := by
  cases e with
  | clock => exact absurd rfl he
  | host w =>
    obtain ⟨h0, hw, hb⟩ := (runEvent_host_tcount h).resolve_left hne
    exact ⟨h0, .inr (.inl ⟨hw.imp (congrArg _) (congrArg _), hb⟩)⟩
  | engine =>
    cases h
    obtain ⟨h0, hadv⟩ := (engineStep_tcount s).resolve_left hne
    exact ⟨h0, .inr (.inr ⟨rfl, hadv⟩)⟩
  | sensor l => cases h; exact absurd (sensorStep_tcount l s) hne
  | reset => cases h; exact ⟨rfl, .inl rfl⟩

/-- Taking the next agent's step off the schedule touches the schedule and the free values alone. -/
theorem nextEvent_eq (s : State) :
    (nextEvent s).2 = { s with sched := (nextEvent s).2.sched, free := (nextEvent s).2.free } := by
  rcases nextEvent_cases s with ⟨e, es, -, h⟩ | ⟨-, h⟩ <;> rw [h]

/-- The tick of a clock turn. -/
theorem step_clock_tcount {s t : State} (he : (nextEvent s).1 = .clock) (h : step s = .next t) :
    t.tcount = if s.trun then min (s.tcount + 1) (tcountMax s.cfg) else s.tcount := by
  obtain ⟨-, hrun⟩ := step_next h
  rw [he, nextEvent_eq] at hrun
  cases hrun
  exact clockStep_tcount _

/-- Settles O27: a clock turn takes the minimum of TCOUNT + 1 and the top, and of the other turns
only R130's writers touch TCOUNT. -/
theorem tcountNeverFallsButToZero : Obligations.TcountNeverFallsButToZero := by
  intro s t _ h
  refine ⟨fun he hr => ?running, fun he hr => ?stopped, fun he hne => ?other⟩
  case running =>
    have htick : t.tcount = min (s.tcount + 1) (2 ^ s.cfg.timerBits - 1) := by
      rw [step_clock_tcount he h, if_pos hr, tcountMax]
    omega
  case stopped => rw [step_clock_tcount he h, hr]; rfl
  case other =>
    obtain ⟨-, hrun⟩ := step_next h
    rw [nextEvent_eq] at hrun
    exact (runEvent_tcount he hrun hne :)

end Sys2Proof.Machine

/-! ## The handshake (41_handshake.md R161 to R166)

START and the four start and response states, and why the line is released only after both start
holds: a hold goes on under every step but the engine's own after its ticks, so the schedule up to
the release is a stretch driven low and then a stretch driven high. -/

namespace Sys2Proof.Machine

/-! ### START (R161) -/

theorem exec_start_idle {s : State} (h : busy s = false) :
    exec .start s = .next (silent (beginCycle s)) := by
  rw [exec_start, h]
  rfl

theorem exec_start_busy {s : State} (h : busy s = true) :
    exec .start s = .next (raiseFault .startWhileBusy s) := by
  rw [exec_start, h]
  rfl

/-- Settles O14: busy decides between what START writes and the fault. -/
theorem startBeginsACycle : Obligations.StartBeginsACycle :=
  ⟨rfl, fun _ => ⟨exec_start_idle, exec_start_busy⟩⟩

/-! ### The engine's step from its guard (R162 to R165, R190, R191)

The converse of `engineStep_cases`. -/

theorem busy_of_waits {s : State} (h : Waits s) : busy s = true := by
  rw [busy_iff_mem]
  rcases h with ⟨h, -⟩ | ⟨h, -⟩ | ⟨h, -⟩ | ⟨h, -⟩ | ⟨h, -⟩ | ⟨h, -⟩ <;> simp [h]

theorem busy_of_move {s t u : State} (h : Move s t u) : busy s = true := by
  rw [busy_iff_mem]
  cases h with
  | holdLow h | holdHigh h | respRise h | respFall h | bitRise h | bitFall h | lastFall h =>
    simp [h]
  | noResponse h | timeout h => rcases h with ⟨h, -⟩ | ⟨h, -⟩ <;> simp [h]

/-- While its state's hold or bound leaves time, the engine only samples. -/
theorem runEvent_engine_of_waits {s : State} (h : Waits s) :
    runEvent .engine s = .next (afterPin s) := by
  rw [runEvent, engineStep_busy (busy_of_waits h)]
  rcases h with ⟨h, hE⟩ | ⟨h, hE⟩ | ⟨h, hp, hE⟩ | ⟨h, hp, hE⟩ | ⟨h, hp, hE⟩ | ⟨h, hp, hE⟩
  · simp [stateRule, h, stepStartLow, hE]
  · simp [stateRule, h, stepStartHigh, hE]
  · simp [stateRule, h, stepRespLow, hp, hE]
  · simp [stateRule, h, stepRespHigh, hp, hE]
  · simp [stateRule, h, stepBitLow, hp, hE]
  · simp [stateRule, h, stepBitHigh, hp, hE]

/-- Where a move's guard holds, the engine makes that move. -/
theorem runEvent_engine_of_move {s u : State} (h : Move s (afterPin s) u) :
    runEvent .engine s = .next u := by
  rw [runEvent, engineStep_busy (busy_of_move h)]
  cases h with
  | holdLow h hE e => simp [stateRule, h, stepStartLow, hE, e]
  | holdHigh h hE e => simp [stateRule, h, stepStartHigh, hE, e]
  | respRise h hp e => simp [stateRule, h, stepRespLow, hp, e]
  | respFall h hp e => simp [stateRule, h, stepRespHigh, hp, e]
  | bitRise h hp e => simp [stateRule, h, stepBitLow, hp, e]
  | bitFall h hp hi e =>
    simp only [stateRule, h, stepBitHigh, hp, if_neg hi, e, afterPin_phase, afterPin_buf,
      afterPin_bitidx, afterPin_cfg]
  | lastFall h hp hi e => simp [stateRule, h, stepBitHigh, hp, hi, e]
  | noResponse h hE e =>
    rcases h with ⟨h, hp⟩ | ⟨h, hp⟩
    · simp [stateRule, h, stepRespLow, hp, hE, failCycle, e]
    · simp [stateRule, h, stepRespHigh, hp, hE, failCycle, e]
  | timeout h hE e =>
    rcases h with ⟨h, hp⟩ | ⟨h, hp⟩
    · simp [stateRule, h, stepBitLow, hp, hE, failCycle, e]
    · simp [stateRule, h, stepBitHigh, hp, hE, failCycle, e]

/-- Settles O29: each clause is a move or a wait of its state. -/
theorem startHoldsAreTimed : Obligations.StartHoldsAreTimed := fun _ =>
  ⟨fun h hE => runEvent_engine_of_move (.holdLow h hE rfl),
    fun h hE => runEvent_engine_of_waits (.inl ⟨h, hE⟩),
    fun h hE => runEvent_engine_of_move (.holdHigh h hE rfl),
    fun h hE => runEvent_engine_of_waits (.inr (.inl ⟨h, hE⟩))⟩

/-- Settles O30: each clause is a move or a wait of its state. -/
theorem responsePhasesAreBounded : Obligations.ResponsePhasesAreBounded := fun _ =>
  ⟨fun h hp => runEvent_engine_of_move (.respRise h hp rfl),
    fun h hp hE => runEvent_engine_of_move (.noResponse (.inl ⟨h, hp⟩) hE rfl),
    fun h hp hE => runEvent_engine_of_waits (.inr (.inr (.inl ⟨h, hp, hE⟩))),
    fun h hp => runEvent_engine_of_move (.respFall h hp rfl),
    fun h hp hE => runEvent_engine_of_move (.noResponse (.inr ⟨h, hp⟩) hE rfl),
    fun h hp hE => runEvent_engine_of_waits (.inr (.inr (.inr (.inl ⟨h, hp, hE⟩))))⟩

/-! ### The host during a cycle -/

/-- While the engine is busy, a command faults or only returns a response. -/
theorem exec_busy_cases {i : Instr} {s t : State} (hb : busy s = true) (h : exec i s = .next t) :
    (∃ c, t = raiseFault c s) ∨ ∃ r, t = answer r s := by
  cases i with
  | setmode | write | read | rsttmr | elapsed | tmrctl =>
    cases (exec_line_busy rfl hb).symm.trans h
    exact .inl ⟨_, rfl⟩
  | start =>
    cases (exec_start_busy hb).symm.trans h
    exact .inl ⟨_, rfl⟩
  | rdstat | rdfault => cases h; exact .inr ⟨_, rfl⟩
  | rdbyte k =>
    have hready : statusClass s ≠ .ready := by simp [statusClass_eq_busy_iff.mpr hb]
    rw [exec_rdbyte, if_neg hready] at h
    cases h
    exact .inl ⟨_, rfl⟩

theorem runEvent_host_busy_cases {w : Byte} {s t : State} (hb : busy s = true)
    (h : runEvent (.host w) s = .next t) : (∃ c, t = raiseFault c s) ∨ ∃ r, t = answer r s := by
  cases hd : decode w with
  | ok i => exact exec_busy_cases hb ((runEvent_host_ok hd).symm.trans h)
  | error r =>
    cases (runEvent_host_illegal hd).symm.trans h
    exact .inl ⟨_, rfl⟩

/-! ### A start hold -/

/-- The state of the engine that holds the line at a level. -/
def startPhase : Level → Phase
  | .low => .startLow
  | .high => .startHigh

/-- How many ticks that state holds it. -/
def holdTicks (c : Config) : Level → Nat
  | .low => c.tStartLow
  | .high => c.tStartHigh

/-- The engine is in the start hold of a level and drives the line at it. -/
structure State.Drives (s : State) (l : Level) : Prop where
  phase_eq : s.phase = startPhase l
  mode_eq : s.mode = .output
  latch_eq : s.latch = l

/-- The engine is to step next, and the hold's ticks are over. -/
def State.EndsHold (s : State) (l : Level) : Prop :=
  holdTicks s.cfg l ≤ s.tcount ∧ ∃ es, s.sched = .engine :: es

theorem State.Drives.of_eq {s t : State} {l : Level} (h : s.Drives l) (hphase : t.phase = s.phase)
    (hmode : t.mode = s.mode) (hlatch : t.latch = s.latch) : t.Drives l :=
  ⟨hphase.trans h.phase_eq, hmode.trans h.mode_eq, hlatch.trans h.latch_eq⟩

theorem busy_of_drives {s : State} {l : Level} (h : s.Drives l) : busy s = true := by
  rw [busy_iff_mem, h.phase_eq]
  cases l <;> simp [startPhase]

theorem waits_of_drives {s : State} {l : Level} (h : s.Drives l)
    (hE : s.tcount < holdTicks s.cfg l) : Waits s := by
  cases l with
  | low => exact .inl ⟨h.phase_eq, hE⟩
  | high => exact .inr (.inl ⟨h.phase_eq, hE⟩)

/-- Every step but a reset keeps the hold and counts at most its tick, unless it is the engine's and
the hold's ticks are over. -/
theorem runEvent_of_drives {s t : State} {l : Level} {e : Event} (hs : s.Drives l)
    (he : e ≠ .reset) (h : runEvent e s = .next t) :
    (t.Drives l ∧ t.cfg = s.cfg ∧ t.sched = s.sched ∧ t.tcount ≤ s.tcount + ticks [e]) ∨
      (e = .engine ∧ holdTicks s.cfg l ≤ s.tcount) := by
  cases e with
  | reset => exact absurd rfl he
  | host w =>
    left
    rcases runEvent_host_busy_cases (busy_of_drives hs) h with ⟨c, rfl⟩ | ⟨r, rfl⟩
    · exact ⟨hs.of_eq rfl rfl rfl, rfl, rfl, le_rfl⟩
    · exact ⟨hs.of_eq rfl rfl rfl, rfl, rfl, le_rfl⟩
  | engine =>
    by_cases hE : holdTicks s.cfg l ≤ s.tcount
    · exact .inr ⟨rfl, hE⟩
    · have hwaits : Waits s := waits_of_drives hs (Nat.lt_of_not_le hE)
      rw [runEvent_engine_of_waits hwaits, afterPin_output hs.mode_eq] at h
      cases h
      exact .inl ⟨hs, rfl, rfl, le_rfl⟩
  | clock =>
    left
    cases h
    have htick : (clockStep s).tcount ≤ s.tcount + 1 := by
      rw [clockStep_tcount]
      split <;> omega
    exact ⟨hs.of_eq (clockStep_phase s) (clockStep_mode s) (clockStep_latch s),
      clockStep_cfg s, clockStep_sched s, htick⟩
  | sensor level =>
    left
    cases h
    exact ⟨hs.of_eq (sensorStep_phase level s) (sensorStep_mode level s) (sensorStep_latch level s),
      sensorStep_cfg level s, sensorStep_sched level s, (sensorStep_tcount level s).le⟩

/-- The same for a step of the machine. -/
theorem step_of_drives {s : State} {l : Level} {e : Event} {es : List Event}
    (hw : s.cfg.wf = true) (hs : s.Drives l) (hsched : s.sched = e :: es) (he : e ≠ .reset) :
    s.EndsHold l ∨ ∃ t, step s = .next t ∧ t.Drives l ∧ t.cfg = s.cfg ∧ t.sched = es ∧
      t.tcount ≤ s.tcount + ticks [e] := by
  obtain ⟨t, ht⟩ := step_has_next_of_wf hw
  have hrun : runEvent e { s with sched := es } = .next t := (step_cons hw hsched).symm.trans ht
  have hs' : State.Drives { s with sched := es } l := hs.of_eq rfl rfl rfl
  rcases runEvent_of_drives hs' he hrun with hkept | ⟨rfl, hE⟩
  · exact .inr ⟨t, ht, hkept⟩
  · exact .inl ⟨hE, es, hsched⟩

/-! ### A stretch of schedule inside a hold -/

/-- From `s` the first `n` steps lead to `t`, the line being driven at `l` throughout; TCOUNT counts
at most the stretch's ticks. -/
structure HeldFor (l : Level) (s t : State) (n : Nat) : Prop where
  run_eq : Host.Core.run Sys2Proof.core n s = .next t
  drives : ∀ j v, j ≤ n → Host.Core.run Sys2Proof.core j s = .next v → v.Drives l
  cfg_eq : t.cfg = s.cfg
  sched_eq : t.sched = s.sched.drop n
  tcount_le : t.tcount ≤ s.tcount + ticks (s.sched.take n)

theorem HeldFor.zero {l : Level} {s : State} (h : s.Drives l) : HeldFor l s s 0 where
  run_eq := rfl
  drives j v hj hv := by
    obtain rfl : j = 0 := by omega
    cases hv
    exact h
  cfg_eq := rfl
  sched_eq := rfl
  tcount_le := Nat.le_add_right _ _

theorem HeldFor.drives_end {l : Level} {s t : State} {n : Nat} (h : HeldFor l s t n) :
    t.Drives l :=
  h.drives n t le_rfl h.run_eq

/-- A step inside the hold before a stretch inside it. -/
theorem HeldFor.cons {l : Level} {r s t : State} {e : Event} {n : Nat} (hr : r.Drives l)
    (hstep : step r = .next s) (hsched : r.sched = e :: s.sched) (hcfg : s.cfg = r.cfg)
    (hcount : s.tcount ≤ r.tcount + ticks [e]) (h : HeldFor l s t n) :
    HeldFor l r t (n + 1) where
  run_eq := (core_run_succ_next hstep n).trans h.run_eq
  drives j v hj hv := by
    cases j with
    | zero => cases hv; exact hr
    | succ j =>
      rw [core_run_succ_next hstep] at hv
      exact h.drives j v (by omega) hv
  cfg_eq := h.cfg_eq.trans hcfg
  sched_eq := by rw [hsched, List.drop_succ_cons, h.sched_eq]
  tcount_le := by
    have hsplit : ticks (r.sched.take (n + 1)) = ticks [e] + ticks (s.sched.take n) := by
      rw [hsched, List.take_succ_cons, ← List.singleton_append, ticks, List.count_append]
      rfl
    have := h.tcount_le
    omega

/-- Along any schedule without a reset, the hold goes on for the whole schedule or ends in it. -/
theorem holds_or_ends {l : Level} {s : State} {k : Nat} (hw : s.cfg.wf = true) (hs : s.Drives l)
    (hreset : .reset ∉ s.sched) (hk : k ≤ s.sched.length) :
    ∃ n t, HeldFor l s t n ∧ (n = k ∨ n < k ∧ t.EndsHold l) := by
  induction k generalizing s with
  | zero => exact ⟨0, s, .zero hs, .inl rfl⟩
  | succ k ih =>
    obtain ⟨e, es, hsched⟩ := List.exists_cons_of_length_pos (Nat.zero_lt_of_lt hk)
    rw [hsched, List.mem_cons, not_or] at hreset
    obtain ⟨he, hes⟩ := hreset
    rcases step_of_drives hw hs hsched (Ne.symm he) with hend | ⟨t, hstep, ht, hcfg, rfl, hcount⟩
    · exact ⟨0, s, .zero hs, .inr ⟨k.succ_pos, hend⟩⟩
    · have hkt : k ≤ t.sched.length := by simpa [hsched] using hk
      obtain ⟨n, u, hheld, hu⟩ := ih (hcfg ▸ hw) ht hes hkt
      exact ⟨n + 1, u, .cons hs hstep hsched hcfg hcount hheld,
        hu.imp (congrArg _) (And.imp_left Nat.succ_lt_succ)⟩

/-- A stretch that ends its hold has the hold's ticks, where the count began at 0. -/
theorem HeldFor.holdTicks_le {l : Level} {s t : State} {n : Nat} (h : HeldFor l s t n)
    (hcount : s.tcount = 0) (hend : t.EndsHold l) :
    holdTicks s.cfg l ≤ ticks (s.sched.take n) := by
  obtain ⟨hE, -⟩ := hend
  rw [h.cfg_eq] at hE
  have := h.tcount_le
  omega

/-- The end of the low hold begins the high hold, with a new count (R162). -/
theorem step_low_hold_end {s : State} (hw : s.cfg.wf = true) (hs : s.Drives .low)
    (hend : s.EndsHold .low) :
    ∃ t, step s = .next t ∧ t.Drives .high ∧ t.cfg = s.cfg ∧ t.tcount = 0 ∧
      t.sched = s.sched.tail := by
  obtain ⟨hE, es, hsched⟩ := hend
  have hmove := runEvent_engine_of_move (s := { s with sched := es }) (.holdLow hs.phase_eq hE rfl)
  refine ⟨_, (step_cons hw hsched).trans hmove, ⟨rfl, ?mode, rfl⟩, ?cfg, rfl, ?sched⟩
  case mode => exact (afterPin_mode _).trans hs.mode_eq
  case cfg => exact afterPin_cfg _
  case sched => rw [hsched]; exact afterPin_sched _

/-- After a low hold of `a` steps and the step that ends it, the run goes on from the start of the
high hold. -/
theorem HeldFor.high_hold {s t : State} {a : Nat} (hw : s.cfg.wf = true)
    (h : HeldFor .low s t a) (hend : t.EndsHold .low) :
    ∃ m : State, m.Drives .high ∧ m.cfg = s.cfg ∧ m.tcount = 0 ∧ m.sched = s.sched.drop (a + 1) ∧
      ∀ j, Host.Core.run Sys2Proof.core (a + (j + 1)) s = Host.Core.run Sys2Proof.core j m := by
  obtain ⟨m, hstep, hm, hcfg, hcount, hsched⟩ :=
    step_low_hold_end (h.cfg_eq ▸ hw) h.drives_end hend
  refine ⟨m, hm, hcfg.trans h.cfg_eq, hcount, ?_, fun j => ?_⟩
  · rw [hsched, h.sched_eq, List.tail_drop]
  · exact (core_run_add h.run_eq _).trans (core_run_succ_next hstep j)

/-- The line through a low hold of `a` steps, the step that ends it and a high hold of `b` steps. -/
theorem HeldFor.line_through_both {s t m v : State} {a b : Nat} (hlow : HeldFor .low s t a)
    (hafter : ∀ j, Host.Core.run Sys2Proof.core (a + (j + 1)) s = Host.Core.run Sys2Proof.core j m)
    (hhigh : HeldFor .high m v b) {j : Nat} {u : State} (hj : j ≤ a + (b + 1))
    (hu : Host.Core.run Sys2Proof.core j s = .next u) :
    u.mode = .output ∧ (j ≤ a → u.latch = .low) ∧ (a < j → u.latch = .high) := by
  by_cases hja : j ≤ a
  · have hdrives : u.Drives .low := hlow.drives j u hja hu
    exact ⟨hdrives.mode_eq, fun _ => hdrives.latch_eq, fun h => absurd hja (Nat.not_le.mpr h)⟩
  · obtain ⟨i, rfl⟩ : ∃ i, j = a + (i + 1) := ⟨j - a - 1, by omega⟩
    have hdrives : u.Drives .high := hhigh.drives i u (by omega) ((hafter i).symm.trans hu)
    exact ⟨hdrives.mode_eq, fun h => absurd h hja, fun _ => hdrives.latch_eq⟩

/-! ### No mode violation (R166) -/

/-- The engine writes LATCH at the end of StartLow alone. -/
theorem engineStep_latch (s : State) :
    (engineStep s).latch = s.latch ∨ s.phase = .startLow := by
  rcases engineStep_cases s with ⟨-, h⟩ | ⟨-, -, h⟩ | ⟨-, hmove⟩
  · exact .inl (by rw [h])
  · exact .inl (by rw [h, afterPin_latch])
  · cases hmove with
    | holdLow h => exact .inr h
    | holdHigh _ _ e | respRise _ _ e | respFall _ _ e | bitRise _ _ e | bitFall _ _ _ e
    | lastFall _ _ _ e | noResponse _ _ e | timeout _ _ e =>
      exact .inl (by rw [e]; exact afterPin_latch s)

theorem ticks_take_mono {m n : Nat} (es : List Event) (h : m ≤ n) :
    ticks (es.take m) ≤ ticks (es.take n) :=
  (List.take_sublist_take_left h).count_le _

/-- The step that ends the low hold, before the high hold's stretch, loses no tick. -/
theorem ticks_take_le_cons (es : List Event) (a b : Nat) :
    ticks ((es.drop (a + 1)).take b) ≤ ticks ((es.drop a).take (b + 1)) := by
  rw [← List.tail_drop]
  cases es.drop a with
  | nil => simp
  | cons e rest => exact (List.sublist_cons_self e _).count_le _

/-- From the start of the low hold, LATCH is high only after the low hold's ticks, and the line is
an input only after both holds. -/
theorem released_after_both_holds {s u : State} {k : Nat} (hw : s.cfg.wf = true)
    (hs : s.Drives .low) (hcount : s.tcount = 0) (hreset : .reset ∉ s.sched)
    (hk : k ≤ s.sched.length) (hrun : Host.Core.run Sys2Proof.core k s = .next u) :
    (u.latch = .high → s.cfg.tStartLow ≤ ticks (s.sched.take k)) ∧
    (u.mode = .input → ∃ a b, a + b ≤ k ∧ s.cfg.tStartLow ≤ ticks (s.sched.take a) ∧
      s.cfg.tStartHigh ≤ ticks ((s.sched.drop a).take b) ∧
      ∀ j v, j ≤ a + b → Host.Core.run Sys2Proof.core j s = .next v →
        v.mode = .output ∧ (j ≤ a → v.latch = .low) ∧ (a < j → v.latch = .high)) := by
  obtain ⟨a, t, hlow, rfl | ⟨hak, hlowEnd⟩⟩ := holds_or_ends hw hs hreset hk
  · have hu : u.Drives .low := hlow.drives a u le_rfl hrun
    simp [hu.mode_eq, hu.latch_eq]
  have hlowTicks : s.cfg.tStartLow ≤ ticks (s.sched.take a) := hlow.holdTicks_le hcount hlowEnd
  refine ⟨fun _ => hlowTicks.trans (ticks_take_mono _ hak.le), fun hinput => ?_⟩
  obtain ⟨m, hm, hcfg, hmcount, hsched, hafter⟩ := hlow.high_hold hw hlowEnd
  obtain ⟨d, rfl⟩ : ∃ d, k = a + (d + 1) := ⟨k - a - 1, by omega⟩
  have hmreset : .reset ∉ m.sched := hsched ▸ mt List.mem_of_mem_drop hreset
  have hd : d ≤ m.sched.length := by rw [hsched, List.length_drop]; omega
  obtain ⟨b, v, hhigh, rfl | ⟨hbd, hhighEnd⟩⟩ := holds_or_ends (hcfg ▸ hw) hm hmreset hd
  · have hu : u.Drives .high := hhigh.drives b u le_rfl ((hafter b).symm.trans hrun)
    simp [hu.mode_eq] at hinput
  have hhighTicks : m.cfg.tStartHigh ≤ ticks (m.sched.take b) :=
    hhigh.holdTicks_le hmcount hhighEnd
  rw [hcfg, hsched] at hhighTicks
  exact ⟨a, b + 1, by omega, hlowTicks, hhighTicks.trans (ticks_take_le_cons _ a b),
    fun _ _ hj hv => hlow.line_through_both hafter hhigh hj hv⟩

/-- Settles O41: the engine writes LATCH only from StartLow, where the invariant has MODE = Output,
and START begins the low hold with a new count. -/
theorem noModeViolation : Obligations.NoModeViolation := by
  refine ⟨fun s t hinv h hne => ?engine, fun s t u es k hw hb hstart hreset hk hrun => ?run⟩
  case engine =>
    cases h
    obtain ⟨hmode, -⟩ := hinv.start_low_line ((engineStep_latch s).resolve_left hne)
    exact hmode
  case run =>
    cases (exec_start_idle hb).symm.trans hstart
    exact released_after_both_holds (s := { silent (beginCycle s) with sched := es }) hw
      ⟨rfl, rfl, rfl⟩ rfl hreset hk hrun

end Sys2Proof.Machine

/-! ## The bit stream (42_bitframe.md R190 to R193)

The decoder and the packing as facts about one bit, and the two bit states of the engine. -/

namespace Sys2Proof.Machine

/-! ### The decoder (R192) -/

theorem decodeBit_eq_true_iff {c : Config} {width : Nat} :
    decodeBit c width = true ↔ c.tThresh < width := decide_eq_true_iff

theorem decodeBit_eq_false_iff {c : Config} {width : Nat} :
    decodeBit c width = false ↔ width ≤ c.tThresh := by
  rw [← Bool.not_eq_true, decodeBit_eq_true_iff, Nat.not_lt]

/-- Settles O32: the two boundary values are the two sides of the strict comparison. -/
theorem pulseDecodingIsStrict : Obligations.PulseDecodingIsStrict := fun c _ =>
  ⟨decodeBit_eq_true_iff, decodeBit_eq_false_iff.mpr le_rfl,
    decodeBit_eq_true_iff.mpr (Nat.lt_succ_self c.tThresh)⟩

/-! ### Packing (R193) -/

theorem setBit_getLsbD (x : Byte) {j k : Nat} (hk : k < 8) (b : Bool) :
    (setBit x j b).getLsbD k = if k = j then b else x.getLsbD k := by
  have hmask : (1#8 <<< j).getLsbD k = decide (k = j) := by
    rw [← BitVec.twoPow_eq, BitVec.getLsbD_twoPow, ← Bool.decide_and, decide_eq_decide]
    omega
  cases b with
  | true =>
    rw [setBit, if_pos rfl, BitVec.getLsbD_or, hmask]
    split <;> simp [*]
  | false =>
    rw [setBit, if_neg Bool.false_ne_true, BitVec.getLsbD_and, BitVec.getLsbD_not, hmask]
    split <;> simp [*]

/-- Packing replaces the one stream bit at its index. -/
theorem streamBit_pack (B : Buffer) {i : Nat} (hi : i < 40) (b : Bool) (j : Nat) :
    (pack B i b).streamBit j = if j = i then b else B.streamBit j := by
  unfold pack Buffer.streamBit
  by_cases hbyte : j / 8 = i / 8
  · have hbit : 7 - j % 8 = 7 - i % 8 ↔ j = i := by omega
    rw [hbyte, B.get_set_same (by omega), setBit_getLsbD _ (by omega)]
    simp only [hbit]
  · have hne : j ≠ i := fun h => hbyte (h ▸ rfl)
    rw [B.get_set_other hbyte, if_neg hne]

/-- The first eight stream bits are B[0], the first at the most significant end. -/
theorem humidityInt_getLsbD (B : Buffer) {k : Nat} (hk : k < 8) :
    B.humidityInt.getLsbD k = B.streamBit (7 - k) := by
  have hbyte : (7 - k) / 8 = 0 := by omega
  have hbit : 7 - (7 - k) % 8 = k := by omega
  rw [Buffer.streamBit, hbyte, hbit, Buffer.get]

/-- Settles O33: both parts are read off stream bit by stream bit. -/
theorem packWritesOneBit : Obligations.PackWritesOneBit := by
  refine ⟨fun B i b hi => ⟨?same, fun j _ hj => ?other⟩, fun B => ?source⟩
  case same => exact (streamBit_pack B hi b i).trans (if_pos rfl)
  case other => exact (streamBit_pack B hi b j).trans (if_neg hj)
  case source =>
    refine BitVec.eq_of_getLsbD_eq fun k hk => ?_
    rw [humidityInt_getLsbD _ hk]
    simp only [streamBit_pack, Nat.reduceLT]
    match k, hk with
    | 0, _ | 1, _ | 2, _ | 3, _ | 4, _ | 5, _ | 6, _ | 7, _ => rfl

/-! ### The bit states (R190, R191) -/

theorem toNat_bitidx_succ {i : BitVec 6} (h : i.toNat < 39) : (i + 1).toNat = i.toNat + 1 := by
  bv_omega

/-- Settles O31: each clause is a move or a wait of its state, and below 39 BITIDX counts without
wrapping. -/
theorem bitPhasesAreMeasuredAndPacked : Obligations.BitPhasesAreMeasuredAndPacked := fun s =>
  ⟨fun h hp => runEvent_engine_of_move (.bitRise h hp rfl),
    fun h hp hE => runEvent_engine_of_move (.timeout (.inl ⟨h, hp⟩) hE rfl),
    fun h hp hE => runEvent_engine_of_waits (.inr (.inr (.inr (.inr (.inl ⟨h, hp, hE⟩))))),
    fun h hp hi => runEvent_engine_of_move (.lastFall h hp hi rfl),
    fun h hp hi =>
      have hlast : s.bitidx ≠ 39 := fun h39 => absurd hi (h39 ▸ Nat.lt_irrefl 39)
      ⟨_, runEvent_engine_of_move (.bitFall h hp hlast rfl), toNat_bitidx_succ hi, rfl⟩,
    fun h hp hE => runEvent_engine_of_move (.timeout (.inr ⟨h, hp⟩) hE rfl),
    fun h hp hE => runEvent_engine_of_waits (.inr (.inr (.inr (.inr (.inr ⟨h, hp, hE⟩)))))⟩

end Sys2Proof.Machine

/-! ## The Reading Validator (43_validator.md R220, R221)

The checksum as arithmetic on naturals, and the validated outcome in each kind of state. -/

namespace Sys2Proof.Machine

/-! ### The checksum (R220) -/

theorem toNat_expectedChecksum (B : Buffer) :
    (expectedChecksum B).toNat =
      (B.humidityInt.toNat + B.humidityFrac.toNat + B.tempInt.toNat + B.tempFrac.toNat) % 256 := by
  simp only [expectedChecksum, BitVec.toNat_add, Nat.reducePow, Nat.mod_add_mod]

theorem checksumOk_iff_toNat {B : Buffer} :
    checksumOk B = true ↔
      B.checksum.toNat =
        (B.humidityInt.toNat + B.humidityFrac.toNat + B.tempInt.toNat + B.tempFrac.toNat) %
          256 := by
  rw [checksumOk_iff, ← toNat_expectedChecksum, BitVec.toNat_inj, eq_comm]

/-! ### The outcome (R221) -/

theorem cycleResult_done_good {s : State} (h : s.phase = .done) (hc : checksumOk s.buf = true) :
    cycleResult s =
      .reading s.buf.humidityInt s.buf.humidityFrac s.buf.tempInt s.buf.tempFrac := by
  simp [cycleResult, h, hc]

theorem cycleResult_done_bad {s : State} (h : s.phase = .done) (hc : checksumOk s.buf = false) :
    cycleResult s = .error .checksumMismatch := by
  simp [cycleResult, h, hc]

theorem cycleResult_failed_noResponse {s : State} (h : s.phase = .failed)
    (hk : s.errk = .noResponse) : cycleResult s = .error .noResponse := by
  simp [cycleResult, h, hk]

theorem cycleResult_failed_timeout {s : State} (h : s.phase = .failed) (hk : s.errk = .timeout) :
    cycleResult s = .error .timeout := by
  simp [cycleResult, h, hk]

theorem cycleResult_failed_none {s : State} (h : s.phase = .failed) (hk : s.errk = .none) :
    cycleResult s = .noResult := by
  simp [cycleResult, h, hk]

theorem cycleResult_idle {s : State} (h : s.phase = .idle) : cycleResult s = .noResult := by
  simp [cycleResult, h]

theorem cycleResult_busy {s : State} (h : busy s = true) : cycleResult s = .noResult := by
  unfold busy at h
  unfold cycleResult
  cases hp : s.phase with
  | startLow | startHigh | respLow | respHigh | bitLow | bitHigh => rfl
  | idle | done | failed => simp [hp] at h

/-- Settles O24: the byte sum wraps modulo 256, and each clause is the outcome in one kind of
state. -/
theorem outcomeIsTheValidatedResult : Obligations.OutcomeIsTheValidatedResult := by
  refine ⟨fun _ => checksumOk_iff_toNat, fun s => ⟨cycleResult_done_good, cycleResult_done_bad,
    cycleResult_failed_noResponse, cycleResult_failed_timeout, ?noResult⟩⟩
  case noResult =>
    rintro (hidle | hbusy | ⟨hfailed, hnone⟩)
    · exact cycleResult_idle hidle
    · exact cycleResult_busy hbusy
    · exact cycleResult_failed_none hfailed hnone

end Sys2Proof.Machine

/-! ## The result commands (44_host.md R241 to R243)

What RDSTAT, RDBYTE and RDFAULT return: the status word field by field, a byte of a ready reading
and no other, and the code of the first cause. -/

namespace Sys2Proof.Machine

/-! ### The fields of STATUS (R32) -/

theorem modeBit_eq_decide (m : Mode) : modeBit m = decide (m = .input) := by cases m <;> rfl

theorem levelBit_eq_decide (l : Level) : levelBit l = decide (l = .high) := by cases l <;> rfl

/-- The four one-bit fields, from bit 7 down. -/
theorem statusWord_flags (s : State) :
    (statusWord s).getLsbD 7 = s.fault ∧
      (statusWord s).getLsbD 6 = decide (s.mode = .input) ∧
      (statusWord s).getLsbD 5 = decide (s.latch = .high) ∧
      (statusWord s).getLsbD 4 = s.trun := by
  simp only [statusWord, BitVec.getLsbD_append]
  simp [flagBit, modeBit_eq_decide, levelBit_eq_decide]

theorem statusWord_class (s : State) : (statusWord s).extractLsb' 2 2 = (statusClass s).code :=
  statusClassBits_statusWord s

theorem statusWord_err (s : State) : (statusWord s).extractLsb' 0 2 = errField s :=
  BitVec.extractLsb'_append_eq_right

/-! ### RDSTAT (R241) -/

/-- Settles O15: RDSTAT answers with STATUS, whose fields are the flags, CLASS and ERR. -/
theorem rdstatReturnsTheStatusWord : Obligations.RdstatReturnsTheStatusWord := by
  refine ⟨rfl, exec_rdstat State.reset, fun s => ⟨statusWord s, exec_rdstat s, ?_⟩⟩
  obtain ⟨hfault, hmode, hlatch, htrun⟩ := statusWord_flags s
  refine ⟨hfault, hmode, hlatch, htrun, statusWord_class s, statusWord_err s, fun hb => ?busy⟩
  case busy =>
    rw [statusWord_class, statusWord_err, statusClass_eq_busy_iff.mpr hb, errField_busy hb]
    exact ⟨rfl, rfl⟩

/-! ### RDBYTE (R242) -/

/-- CLASS is Ready exactly in Done with the checksum of R220. -/
theorem ready_iff_sum {s : State} :
    statusClass s = .ready ↔ s.phase = .done ∧
      s.buf.humidityInt + s.buf.humidityFrac + s.buf.tempInt + s.buf.tempFrac = s.buf.checksum :=
  ready_iff.trans (and_congr_right fun _ => checksumOk_iff)

theorem exec_rdbyte_ready {s : State} (h : statusClass s = .ready) (k : BitVec 2) :
    exec (.rdbyte k) s = .next { s with resp := some (.byte (window s.buf k)) } := by
  rw [exec_rdbyte, if_pos h]
  rfl

theorem exec_rdbyte_not_ready {s : State} (h : statusClass s ≠ .ready) (k : BitVec 2) :
    exec (.rdbyte k) s = .next (raiseFault .noReading s) := by
  rw [exec_rdbyte, if_neg h]

/-- RDBYTE, whose operand is cmd[1:0], reserves cmd[3:2]. -/
theorem not_wordWf_of_bits_3_2 {w : Byte} (hop : opField w = 0xA#4)
    (h : w.extractLsb' 2 2 ≠ 0#2) : ¬ wordWf w = true := by
  have hres : reservedBits w = 0xC#4 := by rw [reservedBits, hop]; rfl
  have hbits : ∀ v : Byte, v.extractLsb' 0 4 &&& 0xC#4 = 0#4 → v.extractLsb' 2 2 = 0#2 := by
    decide
  rw [wordWf, Bool.and_eq_true, reservedZero, hres, decide_eq_true_eq]
  exact fun ⟨_, hz⟩ => h (hbits w hz)

theorem runEvent_host_of_not_wordWf {w : Byte} (h : ¬ wordWf w = true) (s : State) :
    runEvent (.host w) s = .next (raiseFault .illegalCommand s) := by
  obtain ⟨-, -, -, hfault⟩ := illegalWordsOnlyFault
  exact hfault w s fun i hi => h (exists_decode_iff_wordWf.mp ⟨i, hi⟩)

/-- Settles O16: CLASS = Ready decides between the byte of the window and the fault, and a reserved
bit makes the word illegal. -/
theorem rdbyteReadsOnlyAReadyReading : Obligations.RdbyteReadsOnlyAReadyReading := by
  refine ⟨rfl, rfl, rfl, rfl, fun s => ⟨fun hdone hsum => ?ready, fun h k => ?notReady,
    fun w hop h => runEvent_host_of_not_wordWf (not_wordWf_of_bits_3_2 hop h) s⟩⟩
  case ready =>
    have hbyte := exec_rdbyte_ready (ready_iff_sum.mpr ⟨hdone, hsum⟩)
    exact ⟨hbyte 0, hbyte 1, hbyte 2, hbyte 3⟩
  case notReady =>
    exact exec_rdbyte_not_ready (fun hready => not_and_or.mpr h (ready_iff_sum.mp hready)) k

/-! ### RDFAULT (R243) -/

theorem exec_rdfault_of_cause {s : State} {c : FCause} (h : s.fcause = c) :
    exec .rdfault s = .next { s with resp := some (.cause c.code) } := by
  subst h
  exact exec_rdfault s

/-- Settles O17: one case for each cause, and under the invariant there is none while FAULT = 0. -/
theorem rdfaultReturnsTheCauseCode : Obligations.RdfaultReturnsTheCauseCode := by
  refine ⟨rfl, fun s hinv hfault => ?noFault, fun s => ?codes⟩
  case noFault => exact exec_rdfault_of_cause (hinv.cause_iff_fault.mpr hfault)
  case codes => split <;> exact exec_rdfault_of_cause ‹_›

end Sys2Proof.Machine

/-! ## Contract faults and failed cycles (60_exceptions.md R301, R306, R307, R309)

A command reads FAULT, FCAUSE and the last response only to return them, no step but a reset undoes
a fault, and Failed is entered by the engine alone. -/

namespace Sys2Proof.Machine

/-! ### FAULT and FCAUSE (R306) -/

/-- `t` keeps FAULT and FCAUSE of `s`, or is `s` with a fault raised. -/
def RaisesOrKeeps (s t : State) : Prop :=
  (t.fault = s.fault ∧ t.fcause = s.fcause) ∨ ∃ c, t = raiseFault c s

theorem raisesOrKeeps_raiseFault (c : FCause) (s : State) : RaisesOrKeeps s (raiseFault c s) :=
  .inr ⟨c, rfl⟩

/-- A command behind a check is the check's fault or its own effect `o`. -/
theorem checked_raisesOrKeeps {p : Prop} [Decidable p] {c : FCause} {s o : State}
    (h : RaisesOrKeeps s o) : RaisesOrKeeps s (if p then raiseFault c s else o) := by
  split
  · exact raisesOrKeeps_raiseFault c s
  · exact h

/-- A command writes FAULT or FCAUSE only by raising a fault. -/
theorem exec_raisesOrKeeps {i : Instr} {s t : State} (h : exec i s = .next t) :
    RaisesOrKeeps s t := by
  cases i with
  | setmode | rsttmr | elapsed | tmrctl | start =>
    cases h
    exact checked_raisesOrKeeps (.inl ⟨rfl, rfl⟩)
  | read =>
    cases h
    exact checked_raisesOrKeeps (.inl ⟨afterPin_fault s, afterPin_fcause s⟩)
  | write v =>
    rw [exec_write] at h
    cases h
    refine checked_raisesOrKeeps ?_
    split
    · exact raisesOrKeeps_raiseFault _ s
    · exact .inl ⟨rfl, rfl⟩
  | rdstat | rdfault => cases h; exact .inl ⟨rfl, rfl⟩
  | rdbyte k =>
    rw [exec_rdbyte, ← ite_not] at h
    cases h
    exact checked_raisesOrKeeps (.inl ⟨rfl, rfl⟩)

/-- The engine raises no contract fault. -/
theorem engineStep_keeps_fault (s : State) :
    (engineStep s).fault = s.fault ∧ (engineStep s).fcause = s.fcause := by
  rcases engineStep_cases s with ⟨-, h⟩ | ⟨-, -, h⟩ | ⟨-, hmove⟩
  · rw [h]; exact ⟨rfl, rfl⟩
  · rw [h]; exact ⟨afterPin_fault s, afterPin_fcause s⟩
  · cases hmove with
    | holdLow _ _ e | holdHigh _ _ e | respRise _ _ e | respFall _ _ e | bitRise _ _ e
    | bitFall _ _ _ e | lastFall _ _ _ e | noResponse _ _ e | timeout _ _ e =>
      rw [e]
      exact ⟨afterPin_fault s, afterPin_fcause s⟩

/-- No step but a reset writes FAULT or FCAUSE other than by raising a fault. -/
theorem runEvent_raisesOrKeeps {e : Event} {s t : State} (he : e ≠ .reset)
    (h : runEvent e s = .next t) : RaisesOrKeeps s t := by
  cases e with
  | host w =>
    cases hd : decode w with
    | ok i => exact exec_raisesOrKeeps ((runEvent_host_ok hd).symm.trans h)
    | error r =>
      cases (runEvent_host_illegal hd).symm.trans h
      exact raisesOrKeeps_raiseFault _ s
  | engine => cases h; exact .inl (engineStep_keeps_fault s)
  | clock => cases h; exact .inl ⟨clockStep_fault s, clockStep_fcause s⟩
  | sensor l => cases h; exact .inl ⟨sensorStep_fault l s, sensorStep_fcause l s⟩
  | reset => exact absurd rfl he

/-! ### What FAULT, FCAUSE and the last response do not reach (R306) -/

/-- States of the same cycle differ in three fields alone. -/
theorem exists_eq_of_sameCycle {s s' : State} (h : s.sameCycle s') :
    ∃ f c r, s' = { s with fault := f, fcause := c, resp := r } :=
  ⟨_, _, _, h.symm⟩

theorem sameCycle_raiseFault (c : FCause) (s : State) : s.sameCycle (raiseFault c s) := rfl

theorem sameCycle_answer (r : Response) (s : State) : s.sameCycle (answer r s) := rfl

theorem afterPin_sameCycle {s s' : State} (h : s.sameCycle s') :
    (afterPin s).sameCycle (afterPin s') := by
  obtain ⟨f, c, r, rfl⟩ := exists_eq_of_sameCycle h
  simp only [afterPin]
  split
  · rfl
  · split <;> rfl

/-- The two states agree on everything but FAULT and FCAUSE. -/
def State.sameButFault (s t : State) : Prop := s.sameCycle t ∧ s.resp = t.resp

/-- Raising the same fault leaves the same state but for what was recorded before it. -/
theorem raiseFault_sameButFault {s s' : State} (h : s.sameCycle s') (c : FCause) :
    (raiseFault c s).sameButFault (raiseFault c s') := by
  obtain ⟨f, d, r, rfl⟩ := exists_eq_of_sameCycle h
  exact ⟨rfl, rfl⟩

theorem answer_sameButFault {s s' : State} (h : s.sameCycle s') (r : Response) :
    (answer r s).sameButFault (answer r s') := by
  obtain ⟨f, d, q, rfl⟩ := exists_eq_of_sameCycle h
  exact ⟨rfl, rfl⟩

/-- Two choices made alike between states that are alike. -/
theorem ite_sameButFault {p : Prop} [Decidable p] {a a' b b' : State} (ha : a.sameButFault a')
    (hb : b.sameButFault b') : (if p then a else b).sameButFault (if p then a' else b') := by
  split
  · exact ha
  · exact hb

/-- In two states of the same cycle a command that does not report the fault does the same and
returns the same. -/
theorem exec_sameButFault {i : Instr} {s s' t u : State} (h : s.sameCycle s')
    (hstat : i ≠ .rdstat) (hcause : i ≠ .rdfault) (ht : exec i s = .next t)
    (hu : exec i s' = .next u) : t.sameButFault u := by
  have hpin := afterPin_sameCycle h
  have hfault := raiseFault_sameButFault h
  obtain ⟨f, c, r, rfl⟩ := exists_eq_of_sameCycle h
  cases i with
  | setmode | rsttmr | elapsed | tmrctl | start =>
    cases ht; cases hu
    exact ite_sameButFault (hfault _) ⟨rfl, rfl⟩
  | read => cases ht; cases hu; exact ite_sameButFault (hfault _) (answer_sameButFault hpin _)
  | write v =>
    rw [exec_write] at ht hu
    cases ht; cases hu
    refine ite_sameButFault (hfault _) ?_
    dsimp only
    split
    · exact hfault _
    · exact ⟨rfl, rfl⟩
  | rdbyte k => cases ht; cases hu; exact ite_sameButFault (answer_sameButFault h _) (hfault _)
  | rdstat => exact absurd rfl hstat
  | rdfault => exact absurd rfl hcause

/-- Settles O20: while busy a host's step faults or answers, a step that writes FAULT or FCAUSE
raises a fault, and a command does the same in two states that differ in the fault alone. -/
theorem contractFaultIsStickyAndIsolated : Obligations.ContractFaultIsStickyAndIsolated := by
  refine ⟨fun c s => ⟨fun hf => ?first, fun hf => ?later⟩, fun w s t hb h => ?busy,
    fun e s t he hf h => ?sticky, fun i c s t u hstat hcause ht hu => ?isolated⟩
  case first => simp only [raiseFault, hf, Bool.false_eq_true, if_false]
  case later => simp only [raiseFault, ← hf, if_true]
  case busy =>
    rcases runEvent_host_busy_cases hb h with ⟨c, rfl⟩ | ⟨r, rfl⟩
    · exact sameCycle_raiseFault c s
    · exact sameCycle_answer r s
  case sticky =>
    rcases runEvent_raisesOrKeeps he h with ⟨hfault, hcause⟩ | ⟨c, rfl⟩
    · exact ⟨hfault.trans hf, hcause⟩
    · exact ⟨rfl, raiseFault_fcause_later hf⟩
  case isolated => exact exec_sameButFault (sameCycle_raiseFault c s) hstat hcause ht hu

/-! ### The order of the checks (R307) -/

/-- Settles O21: a word is decoded before any other check, and the check of the mode or of CLASS
comes last. -/
theorem faultChecksAreOrdered : Obligations.FaultChecksAreOrdered := by
  intro w s
  obtain ⟨-, -, -, hillegal⟩ := illegalWordsOnlyFault
  refine ⟨hillegal w s, fun i hd hb hline => ?line, fun hd hb => ?start,
    fun v hd hb hm => ?write, fun k hd hready => ?rdbyte⟩
  case line =>
    have hi : i.isLine = true := by
      rcases hline with ⟨m, rfl⟩ | ⟨v, rfl⟩ | rfl | rfl | rfl | ⟨r, rfl⟩ <;> rfl
    exact (runEvent_host_ok hd).trans (exec_line_busy hi hb)
  case start => exact (runEvent_host_ok hd).trans (exec_start_busy hb)
  case write => exact (runEvent_host_ok hd).trans (exec_write_idle_input hb hm v)
  case rdbyte => exact (runEvent_host_ok hd).trans (exec_rdbyte_not_ready hready k)

/-! ### The entry to Failed (R301, R309) -/

/-- A host's step keeps STATE or begins a cycle. -/
theorem runEvent_host_phase {w : Byte} {s t : State} (h : runEvent (.host w) s = .next t) :
    t.phase = s.phase ∨ t.phase = .startLow := by
  cases hd : decode w with
  | error r =>
    cases (runEvent_host_illegal hd).symm.trans h
    exact .inl rfl
  | ok i =>
    rw [runEvent_host_ok hd] at h
    by_cases hi : i = .start
    · subst hi
      cases h
      split
      · exact .inl rfl
      · exact .inr rfl
    · exact .inl (exec_keeps_phase_and_buf h hi).1

/-- The two failures out of a state `s`, each with its guard: `t` is the state after the sample and
`u` the failed state. -/
def Fails (s t u : State) : Prop :=
  (s.phase = .respLow ∧ pin s = .low ∨ s.phase = .respHigh ∧ pin s = .high) ∧
      s.cfg.tResp < s.tcount ∧ u = failCycle .noResponse t ∨
    (s.phase = .bitLow ∧ pin s = .low ∨ s.phase = .bitHigh ∧ pin s = .high) ∧
      s.cfg.tBit < s.tcount ∧ u = failCycle .timeout t

/-- Of the engine's steps only the two failures enter Failed. -/
theorem fails_of_engineStep {s : State} (hs : s.phase ≠ .failed)
    (ht : (engineStep s).phase = .failed) : Fails s (afterPin s) (engineStep s) := by
  rcases engineStep_cases s with ⟨-, h⟩ | ⟨-, -, h⟩ | ⟨-, hmove⟩
  · exact absurd (h ▸ ht) hs
  · exact absurd ((afterPin_phase s).symm.trans (h ▸ ht)) hs
  · cases hmove with
    | holdLow _ _ e | holdHigh _ _ e | respRise _ _ e | respFall _ _ e | bitRise _ _ e
    | bitFall _ _ _ e | lastFall _ _ _ e => rw [e] at ht; cases ht
    | noResponse h hE e => exact .inl ⟨h, hE, e⟩
    | timeout h hE e => exact .inr ⟨h, hE, e⟩

/-- Of all steps only the engine's enters Failed. -/
theorem fails_of_runEvent {e : Event} {s t : State} (h : runEvent e s = .next t)
    (hs : s.phase ≠ .failed) (ht : t.phase = .failed) : e = .engine ∧ Fails s (afterPin s) t := by
  cases e with
  | engine => cases h; exact ⟨rfl, fails_of_engineStep hs ht⟩
  | host w =>
    rcases runEvent_host_phase h with hp | hp
    · exact absurd (hp.symm.trans ht) hs
    · exact absurd (hp.symm.trans ht) (by decide)
  | clock => cases h; exact absurd ((clockStep_phase s).symm.trans ht) hs
  | sensor l => cases h; exact absurd ((sensorStep_phase l s).symm.trans ht) hs
  | reset => cases h; cases ht

/-- The sample saw the level being waited through. -/
theorem Fails.sample {s t u : State} (h : Fails s t u) :
    (s.phase = .respLow ∨ s.phase = .bitLow → pin s = .low) ∧
      (s.phase = .respHigh ∨ s.phase = .bitHigh → pin s = .high) := by
  rcases h with ⟨⟨hs, hp⟩ | ⟨hs, hp⟩, -⟩ | ⟨⟨hs, hp⟩ | ⟨hs, hp⟩, -⟩ <;> simp [hs, hp]

/-- With the sample before it, the entry to Failed writes ERRK and STATE and uses up an input of the
sensor. -/
theorem failCycle_afterPin_eq (k : Errk) (s : State) :
    failCycle k (afterPin s) =
      { s with errk := k, phase := .failed, drive := (afterPin s).drive,
               sched := (afterPin s).sched, free := (afterPin s).free } := by
  rcases afterPin_cases s with h | h | h <;> rw [h] <;> rfl

/-- Settles O36: the step is the engine's, and its guard gives the kind, the bound and the sampled
level. -/
theorem failureIsRecordedOnce : Obligations.FailureIsRecordedOnce := by
  intro s t h hs ht
  obtain ⟨-, hrun⟩ := step_next h
  obtain ⟨es, n, hnext⟩ : ∃ es n, (nextEvent s).2 = { s with sched := es, free := n } :=
    ⟨_, _, nextEvent_eq s⟩
  rw [hnext] at hrun ⊢
  obtain ⟨hengine, hfails⟩ := fails_of_runEvent hrun hs ht
  obtain ⟨hlow, hhigh⟩ := hfails.sample
  rcases hfails with ⟨hfrom, hE, rfl⟩ | ⟨hfrom, hE, rfl⟩
  · exact ⟨hengine, .inl ⟨hfrom.imp And.left And.left, rfl, hE⟩, hlow, hhigh,
      failCycle_afterPin_eq _ _⟩
  · exact ⟨hengine, .inr ⟨hfrom.imp And.left And.left, rfl, hE⟩, hlow, hhigh,
      failCycle_afterPin_eq _ _⟩

end Sys2Proof.Machine

/-! ## Reset (70_reset_and_hazards.md R340)

A reset writes one value to each register the rule names, whatever state it begins in, and it alone
clears FAULT and FCAUSE. -/

namespace Sys2Proof.Machine

/-- The reset state is its own reset, so that a fact about every reset covers it too. -/
theorem resetStep_reset : resetStep State.reset = State.reset := rfl

theorem runEvent_reset (s : State) : runEvent .reset s = .next (resetStep s) := rfl

/-- R340's values need to be read off one form of state only. -/
theorem exists_eq_resetStep {s : State}
    (h : s = State.reset ∨ ∃ r, runEvent .reset r = .next s) : ∃ r, s = resetStep r := by
  rcases h with rfl | ⟨r, hr⟩
  · exact ⟨State.reset, resetStep_reset.symm⟩
  · cases (runEvent_reset r).symm.trans hr
    exact ⟨r, rfl⟩

/-- Settles O1: both kinds of state are resets, whose registers are known field by field, and no
other step undoes a fault (R306). -/
theorem resetPutsRegistersAtResetValues : Obligations.ResetPutsRegistersAtResetValues := by
  refine ⟨fun s h => ?values, fun r => ⟨_, runEvent_reset r⟩, ?sticky⟩
  case values =>
    obtain ⟨r, rfl⟩ := exists_eq_resetStep h
    exact ⟨resetStep_mode r, resetStep_latch r, resetStep_trun r, resetStep_tcount r,
      resetStep_phase r, resetStep_errk r, resetStep_fault r, resetStep_fcause r,
      cycleResult_idle (resetStep_phase r)⟩
  case sticky =>
    obtain ⟨-, -, hsticky, -⟩ := contractFaultIsStickyAndIsolated
    exact hsticky

end Sys2Proof.Machine

/-! ## The port and the agents (30_encoding.md; 20_memory.md R66; 44_host.md section 1)

The words against their commands, and whose turn a step is. -/

namespace Sys2Proof.Machine

/-! ### The words of the port -/

/-- Settles O6: a word is decoded to a command exactly when it is that command's encoding, and the
words that decode are the well-formed ones. -/
theorem decodeAndEncodeAgree : Obligations.DecodeAndEncodeAgree :=
  ⟨decode_encode, fun _ _ => encode_of_decode, fun _ => exists_decode_iff_wordWf.symm.trans
    (exists_congr fun _ => ⟨encode_of_decode, decode_of_encode_eq⟩)⟩

/-- Settles O5: the 16 words are the encodings of the commands in that order. -/
theorem legalWordsDecodeToTheirCommands : Obligations.LegalWordsDecodeToTheirCommands := by
  have h : (allCommands.map encode).map decode = allCommands.map .ok := by
    rw [List.map_map]
    exact List.map_congr_left fun i _ => decode_encode i
  exact h

/-! ### Whose turn it is -/

/-- Settles O8: the head of the schedule, or the free draw, is the next event. -/
theorem scheduledAgentStepsNext : Obligations.ScheduledAgentStepsNext :=
  ⟨fun _ _ _ hw hsched => step_cons hw hsched, fun _ hw hsched => by
    rw [step_of_wf hw, nextEvent_nil hsched]⟩

theorem step_host_ok {s : State} {w : Byte} {es : List Event} {i : Instr} (hw : s.cfg.wf = true)
    (hsched : s.sched = .host w :: es) (hd : decode w = .ok i) :
    step s = exec i { s with sched := es } := by
  rw [step_cons hw hsched, runEvent_host_ok hd]

/-- A table word of one command length is the word on the port. -/
theorem decode_of_decodeTableWord {n : Nat} {i : Instr} (h : decodeTableWord 8 n = some i) :
    decode (tableCommand 8 n) = .ok i := by
  rw [decodeTableWord, if_pos le_rfl] at h
  cases hd : decode (tableCommand 8 n) with
  | ok j => rw [hd] at h; exact congrArg _ (Option.some.inj h)
  | error r => rw [hd] at h; cases h

/-- Settles O7: both the schedule's word and the fetched word are the host's turn with a word that
decodes. -/
theorem stepRunsTheDecodedCommand : Obligations.StepRunsTheDecodedCommand :=
  ⟨fun _ _ _ _ => step_host_ok, fun s _ _ hw _ hd =>
    step_host_ok (s := s.withFetchWord 8 _) hw rfl (decode_of_decodeTableWord hd)⟩

/-! ### The pin, the clock and the engine (40_line.md R127 to R129; 41_handshake.md R160) -/

theorem sensorStep_output {s : State} (h : s.mode = .output) (l : Level) : sensorStep l s = s := by
  simp [sensorStep, h]

theorem sensorStep_input {s : State} (h : s.mode = .input) (l : Level) :
    sensorStep l s = { s with drive := some l } := by
  simp [sensorStep, h]

theorem pin_input_free {s : State} (h : s.mode = .input) (hd : s.drive = none) :
    pin s = Config.freeLevel s.free := by
  simp [pin, h, hd]

/-- Settles O25: MODE decides between the latch, the level set by the sensor and the free level. -/
theorem pinIsLatchOrSensorDraw : Obligations.PinIsLatchOrSensorDraw :=
  ⟨fun _ h => ⟨pin_output h, afterPin_output h, fun l => congrArg _ (sensorStep_output h l)⟩,
    fun s l h => ⟨congrArg _ (sensorStep_input h l),
      pin_input_set (s := { s with drive := some l }) h rfl,
      afterPin_input_set (s := { s with drive := some l }) h rfl⟩,
    fun _ h hd => ⟨pin_input_free h hd, afterPin_input_free h hd⟩⟩

theorem clockStep_running {s : State} (h : s.trun = true) :
    clockStep s = { s with tcount := min (s.tcount + 1) (tcountMax s.cfg) } := by
  rw [clockStep, if_pos h]

theorem clockStep_stopped {s : State} (h : s.trun = false) : clockStep s = s := by
  simp [clockStep, h]

/-- Settles O26: TRUN decides between the tick and the stutter. -/
theorem clockTicksAndSaturates : Obligations.ClockTicksAndSaturates := fun _ =>
  ⟨fun h => congrArg _ (clockStep_running h), fun h => congrArg _ (clockStep_stopped h)⟩

/-- Settles O28: busy decides between the state rule and the stutter. -/
theorem engineStepsOnlyWhileBusy : Obligations.EngineStepsOnlyWhileBusy := fun _ =>
  ⟨fun h => congrArg _ (engineStep_quiescent (busy_eq_false_iff.mpr h)),
    fun h => congrArg _ (engineStep_busy h)⟩

/-! ### STATUS in the states of the vectors (95_test_vectors.md V-L2-S1 to V-L2-S7) -/

/-- Settles O23: the fields of STATUS in each kind of state, and FAULT as its top bit. -/
theorem statusWordsOfTheVectors : Obligations.StatusWordsOfTheVectors := by
  refine ⟨rfl, fun s hf hr => ?words, fun s => ?fault⟩
  case words =>
    have hword {m : Mode} {l : Level} {c : StatusClass} {e : BitVec 2} (hm : s.mode = m)
        (hl : s.latch = l) (hc : statusClass s = c) (he : errField s = e) :
        statusWord s = flagBit false ++ flagBit (modeBit m) ++ flagBit (levelBit l) ++
          flagBit true ++ c.code ++ e := by
      rw [statusWord, hf, hm, hl, hr, hc, he]
    have hbusy {m : Mode} {l : Level} (h : busy s = true) (hm : s.mode = m) (hl : s.latch = l) :=
      hword hm hl (statusClass_eq_busy_iff.mpr h) (errField_busy h)
    have hfailed {k : Errk} (h : s.phase = .failed) (hk : s.errk = k) (hm : s.mode = .input)
        (hl : s.latch = .high) :=
      hword hm hl (statusClass_failed h) ((errField_failed h).trans (congrArg Errk.code hk))
    refine ⟨fun h hm hl => hword hm hl (statusClass_idle h) (errField_idle h),
      fun h => hbusy (busy_iff_mem.mpr (by simp [h])),
      fun h => hbusy (busy_iff_mem.mpr (by simp [h])),
      fun h => hbusy (busy_iff_mem.mpr ?_),
      fun h hc hm hl => hword hm hl (ready_iff.mpr ⟨h, hc⟩) (errField_done_good h hc),
      fun h hc hm hl => hword hm hl (statusClass_done_bad h hc) (errField_done_bad h hc),
      hfailed, hfailed⟩
    exact List.mem_cons_of_mem _ (List.mem_cons_of_mem _ h)
  case fault =>
    have htop : ∀ (m l r : Bool) (c e : BitVec 2),
        (flagBit true ++ flagBit m ++ flagBit l ++ flagBit r ++ c ++ e : Byte) =
          flagBit false ++ flagBit m ++ flagBit l ++ flagBit r ++ c ++ e ||| 0x80#8 := by decide
    exact htop _ _ _ _ _

end Sys2Proof.Machine

/-! ## What a command does (30_encoding.md R96; 40_line.md R120 to R126; 44_host.md R240 to R243)

The meanings inverted, said once: the next state of a command is a fault or the command's own
effect, with the check it passed. The statements about every command are read off these cases. -/

namespace Sys2Proof.Machine

/-- What the command `i` has done from `s` to `t`. -/
inductive Effect (i : Instr) (s t : State) : Prop
  | fault (c : FCause) (hc : c ≠ .none) (e : t = raiseFault c s)
  | setmode (m : Mode) (hi : i = .setmode m) (hb : busy s = false)
      (e : t = silent { s with mode := m })
  | write (v : Level) (hi : i = .write v) (hb : busy s = false) (hm : s.mode = .output)
      (e : t = silent { s with latch := v })
  | read (hi : i = .read) (hb : busy s = false) (e : t = answer (.level (pin s)) (afterPin s))
  | rsttmr (hi : i = .rsttmr) (hb : busy s = false) (e : t = silent { s with tcount := 0 })
  | elapsed (hi : i = .elapsed) (hb : busy s = false) (e : t = answer (.count s.tcount) s)
  | tmrctl (r : Bool) (hi : i = .tmrctl r) (hb : busy s = false)
      (e : t = silent { s with trun := r })
  | start (hi : i = .start) (hb : busy s = false) (e : t = silent (beginCycle s))
  | rdstat (hi : i = .rdstat) (e : t = answer (.status (statusWord s)) s)
  | rdbyte (k : BitVec 2) (hi : i = .rdbyte k) (hr : statusClass s = .ready)
      (e : t = answer (.byte (window s.buf k)) s)
  | rdfault (hi : i = .rdfault) (e : t = answer (.cause s.fcause.code) s)

/-- The ownership check: a fault while busy, else the command's own effect. -/
theorem effect_of_owned {i : Instr} {c : FCause} {s o : State} (hc : c ≠ .none)
    (h : busy s = false → Effect i s o) : Effect i s (if busy s then raiseFault c s else o) := by
  cases hb : busy s with
  | true => exact .fault c hc rfl
  | false => exact h hb

theorem effect_of_exec {i : Instr} {s t : State} (h : exec i s = .next t) : Effect i s t := by
  cases i with
  | setmode m => cases h; exact effect_of_owned (by decide) fun hb => .setmode m rfl hb rfl
  | write v =>
    rw [exec_write] at h
    cases h
    refine effect_of_owned (by decide) fun hb => ?_
    split
    · exact .fault _ (by decide) rfl
    · exact .write v rfl hb ‹_› rfl
  | read => cases h; exact effect_of_owned (by decide) fun hb => .read rfl hb rfl
  | rsttmr => cases h; exact effect_of_owned (by decide) fun hb => .rsttmr rfl hb rfl
  | elapsed => cases h; exact effect_of_owned (by decide) fun hb => .elapsed rfl hb rfl
  | tmrctl r => cases h; exact effect_of_owned (by decide) fun hb => .tmrctl r rfl hb rfl
  | start => cases h; exact effect_of_owned (by decide) fun hb => .start rfl hb rfl
  | rdstat => cases h; exact .rdstat rfl rfl
  | rdbyte k =>
    cases h
    split
    · exact .rdbyte k rfl ‹_› rfl
    · exact .fault _ (by decide) rfl
  | rdfault => cases h; exact .rdfault rfl rfl

/-- A word on the port is an illegal command's fault or the effect of the command it encodes. -/
theorem effect_of_runEvent_host {w : Byte} {s t : State} (h : runEvent (.host w) s = .next t) :
    t = raiseFault .illegalCommand s ∨ ∃ i, w = encode i ∧ Effect i s t := by
  cases hd : decode w with
  | error r =>
    cases (runEvent_host_illegal hd).symm.trans h
    exact .inl rfl
  | ok i =>
    exact .inr ⟨i, (encode_of_decode hd).symm, effect_of_exec ((runEvent_host_ok hd).symm.trans h)⟩

/-! ### What no command does -/

theorem Effect.keeps_sched_cfg {i : Instr} {s t : State} (h : Effect i s t) :
    t.sched = s.sched ∧ t.cfg = s.cfg := by
  cases h with
  | read _ _ e => rw [e]; exact ⟨afterPin_sched s, afterPin_cfg s⟩
  | fault _ _ e | setmode _ _ _ e | write _ _ _ _ e | rsttmr _ _ e | elapsed _ _ e | tmrctl _ _ _ e
  | start _ _ e | rdstat _ e | rdbyte _ _ _ e | rdfault _ e => rw [e]; exact ⟨rfl, rfl⟩

/-- Settles O9: every command and every word has a next state, and no effect writes the schedule or
the configuration. -/
theorem everyCommandCompletesInItsOwnStep : Obligations.EveryCommandCompletesInItsOwnStep := by
  refine ⟨fun i s => ?command, fun w s => ?word⟩
  case command =>
    obtain ⟨t, ht⟩ := exec_has_next i s
    exact ⟨t, ht, (effect_of_exec ht).keeps_sched_cfg⟩
  case word =>
    obtain ⟨t, ht⟩ := runEvent_has_next (.host w) s
    refine ⟨t, ht, ?_⟩
    rcases effect_of_runEvent_host ht with rfl | ⟨i, -, heffect⟩
    · exact ⟨rfl, rfl⟩
    · exact heffect.keeps_sched_cfg

/-! ### The reading commands (20_memory.md R65; 40_line.md R123) -/

/-- Settles O12: ownership and MODE decide, and the pin is the latch, the level set or a free
level. -/
theorem readReturnsTheSensedLevel : Obligations.ReadReturnsTheSensedLevel := by
  refine ⟨rfl, fun s => ⟨fun hb hm => ?latch, fun l hb hm hd => ?set, fun hb hm hd => ?free,
    fun hb => exec_line_busy rfl hb⟩⟩
  case latch => rw [exec_read_idle hb, pin_output hm, afterPin_output hm]
  case set => rw [exec_read_idle hb, pin_input_set hm hd, afterPin_input_set hm hd]
  case free => rw [exec_read_idle hb, pin_input_free hm hd, afterPin_input_free hm hd]

/-- A READ in Input mode uses up the level set, or else a free value. -/
theorem afterPin_input (s : State) (h : s.mode = .input) :
    afterPin s = { s with drive := none, free := (afterPin s).free } ∧
      (afterPin s).free = if s.drive = none then s.free + 1 else s.free := by
  cases hd : s.drive with
  | none => rw [afterPin_input_free h hd, if_pos rfl, ← hd]; exact ⟨rfl, rfl⟩
  | some l => rw [afterPin_input_set h hd, if_neg (by simp)]; exact ⟨rfl, rfl⟩

/-- Settles O18: a command that has answered has written the response alone, beside the draw of a
sample in Input mode, and its answer reads no response. -/
theorem readingCommandsChangeNoRegister : Obligations.ReadingCommandsChangeNoRegister := by
  intro i s t hreads h hresp
  cases effect_of_exec h with
  | fault c _ e | setmode m _ _ e | write v _ _ _ e | rsttmr _ _ e | tmrctl r _ _ e
  | start _ _ e => exact absurd (by rw [e]; rfl) hresp
  | read hi hb e =>
    subst hi e
    refine ⟨fun hout => ?output, fun _ hin => ?input⟩
    case output =>
      have hm : s.mode = .output := hout.resolve_left fun hne => hne rfl
      have hkeep : answer (.level (pin s)) (afterPin s) = answer (.level (pin s)) s := by
        rw [afterPin_output hm]
      rw [hkeep]
      refine ⟨rfl, ?_⟩
      rw [exec_read_idle (s := answer _ s) hb, afterPin_output (s := answer _ s) hm]
      rfl
    case input =>
      obtain ⟨hkeep, hfree⟩ := afterPin_input s hin
      exact ⟨congrArg (answer (.level (pin s))) hkeep, hfree⟩
  | elapsed hi hb e =>
    subst hi e
    exact ⟨fun _ => ⟨rfl, exec_elapsed_idle (s := answer _ s) hb⟩, fun hne => nomatch hne⟩
  | rdstat hi e => subst hi e; exact ⟨fun _ => ⟨rfl, rfl⟩, fun hne => nomatch hne⟩
  | rdbyte k hi hr e =>
    subst hi e
    exact ⟨fun _ => ⟨rfl, exec_rdbyte_ready (s := answer _ s) hr k⟩, fun hne => nomatch hne⟩
  | rdfault hi e => subst hi e; exact ⟨fun _ => ⟨rfl, rfl⟩, fun hne => nomatch hne⟩

/-! ### The widths of the responses (30_encoding.md R96) -/

theorem levelBit_toNat_lt (l : Level) : (levelBit l).toNat < 2 ^ 1 := by cases l <;> decide

/-- Settles O19: each answer is a word of its width, TCOUNT by the invariant, and no other effect
answers. -/
theorem responsesFitTheirWidths : Obligations.ResponsesFitTheirWidths := by
  intro i s t hinv h
  have hcount : s.tcount < 2 ^ s.cfg.timerBits := by
    have := hinv.tcount_fits
    have := Nat.two_pow_pos s.cfg.timerBits
    omega
  refine ⟨fun r hr => ?width, fun h0 h1 => ?faulted, fun c => rfl⟩
  case width =>
    cases effect_of_exec h with
    | fault _ _ e | setmode _ _ _ e | write _ _ _ _ e | rsttmr _ _ e | tmrctl _ _ _ e
    | start _ _ e => rw [e] at hr; cases hr
    | read hi _ e => rw [e] at hr; cases hr; exact ⟨levelBit_toNat_lt _, .inl ⟨hi, rfl⟩⟩
    | elapsed hi _ e => rw [e] at hr; cases hr; exact ⟨hcount, .inr (.inl ⟨hi, rfl⟩)⟩
    | rdstat hi e =>
      rw [e] at hr; cases hr
      exact ⟨BitVec.isLt _, .inr (.inr (.inl ⟨hi, rfl⟩))⟩
    | rdbyte k hi _ e =>
      rw [e] at hr; cases hr
      exact ⟨BitVec.isLt _, .inr (.inr (.inr (.inl ⟨⟨k, hi⟩, rfl⟩)))⟩
    | rdfault hi e =>
      rw [e] at hr; cases hr
      exact ⟨BitVec.isLt _, .inr (.inr (.inr (.inr ⟨hi, rfl⟩)))⟩
  case faulted =>
    rcases exec_raisesOrKeeps h with ⟨hkept, -⟩ | ⟨c, rfl⟩
    · rw [hkept, h0] at h1; cases h1
    · rfl

end Sys2Proof.Machine

/-! ## Who writes each register (10_state.md sections 1 to 3)

One lemma for each agent whose steps write registers, over its inversion, and the statements over
the next agent's step. -/

namespace Sys2Proof.Machine

/-! ### STATE (R25) -/

/-- The transitions of the state rules. -/
def engineTransitions : List (Phase × Phase) :=
  [(.startLow, .startHigh), (.startHigh, .respLow), (.respLow, .respHigh), (.respLow, .failed),
   (.respHigh, .bitLow), (.respHigh, .failed), (.bitLow, .bitHigh), (.bitLow, .failed),
   (.bitHigh, .bitLow), (.bitHigh, .done), (.bitHigh, .failed)]

/-- The engine goes along one of its transitions, and into Done only from the last bit. -/
def Transition (s t : State) : Prop :=
  (s.phase, t.phase) ∈ engineTransitions ∧ (t.phase = .done → s.bitidx = 39)

theorem Move.transition {s t u : State} (h : Move s t u) : Transition s u := by
  unfold Transition engineTransitions
  cases h with
  | lastFall h _ hi e => simp [h, e, hi]
  | holdLow h _ e | holdHigh h _ e | respRise h _ e | respFall h _ e | bitRise h _ e
  | bitFall h _ _ e => simp [h, e]
  | noResponse h _ e | timeout h _ e => rcases h with ⟨h, -⟩ | ⟨h, -⟩ <;> simp [h, e]

theorem engineStep_phase (s : State) :
    (engineStep s).phase = s.phase ∨ Transition s (engineStep s) := by
  rcases engineStep_cases s with ⟨-, h⟩ | ⟨-, -, h⟩ | ⟨-, hmove⟩
  · exact .inl (by rw [h])
  · exact .inl (by rw [h, afterPin_phase])
  · exact .inr hmove.transition

/-- START is the one word that writes STATE. -/
theorem runEvent_host_writes_phase {w : Byte} {s t : State} (h : runEvent (.host w) s = .next t)
    (hne : t.phase ≠ s.phase) : w = 0x80#8 ∧ busy s = false ∧ t.phase = .startLow := by
  rcases effect_of_runEvent_host h with rfl | ⟨i, hw, heffect⟩
  · exact absurd rfl hne
  · cases heffect with
    | start hi hb e => rw [hw, hi, e]; exact ⟨rfl, hb, rfl⟩
    | read _ _ e => exact absurd (by rw [e]; exact afterPin_phase s) hne
    | fault _ _ e | setmode _ _ _ e | write _ _ _ _ e | rsttmr _ _ e | elapsed _ _ e
    | tmrctl _ _ _ e | rdstat _ e | rdbyte _ _ _ e | rdfault _ e =>
      exact absurd (by rw [e]; rfl) hne

theorem runEvent_writes_phase {e : Event} {s t : State} (h : runEvent e s = .next t)
    (hne : t.phase ≠ s.phase) :
    (e = .reset ∧ t.phase = .idle) ∨
      (e = .host 0x80#8 ∧ busy s = false ∧ t.phase = .startLow) ∨
      (e = .engine ∧ Transition s t) := by
  cases e with
  | host w =>
    obtain ⟨rfl, hb, ht⟩ := runEvent_host_writes_phase h hne
    exact .inr (.inl ⟨rfl, hb, ht⟩)
  | engine => cases h; exact .inr (.inr ⟨rfl, (engineStep_phase s).resolve_left hne⟩)
  | clock => cases h; exact absurd (clockStep_phase s) hne
  | sensor l => cases h; exact absurd (sensorStep_phase l s) hne
  | reset => cases h; exact .inl ⟨rfl, rfl⟩

/-- Settles O35: of the agents only the host with START, the engine and reset write STATE. -/
theorem stateChangesAreTheSpecsTransitions : Obligations.StateChangesAreTheSpecsTransitions := by
  intro s t h hne
  obtain ⟨-, hrun⟩ := step_next h
  rw [nextEvent_eq] at hrun
  exact (runEvent_writes_phase hrun hne :)

/-! ### The other registers (R20 to R24, R26 to R29) -/

/-- What the step `e` from `s` to `t` may have written, register by register. -/
structure WritesNamed (e : Event) (s t : State) : Prop where
  cfg : t.cfg = s.cfg
  mode : t.mode ≠ s.mode →
    (busy s = false ∧ (e = .host 0x10#8 ∨ e = .host 0x11#8 ∨ e = .host 0x80#8)) ∨
    (e = .engine ∧ s.phase = .startHigh ∧ t.mode = .input)
  latch : t.latch ≠ s.latch →
    (busy s = false ∧ (e = .host 0x20#8 ∨ e = .host 0x21#8 ∨ e = .host 0x80#8)) ∨
    (e = .engine ∧ s.phase = .startLow ∧ t.latch = .high)
  tcount : t.tcount ≠ s.tcount →
    (e = .clock ∧ s.trun = true) ∨
    ((e = .host 0x40#8 ∨ e = .host 0x80#8) ∧ busy s = false ∧ t.tcount = 0) ∨
    (e = .engine ∧ busy s = true ∧ busy t = true ∧ t.phase ≠ s.phase ∧ t.tcount = 0)
  trun : t.trun ≠ s.trun → busy s = false ∧
    (e = .host 0x60#8 ∧ t.trun = false ∨ e = .host 0x61#8 ∧ t.trun = true)
  bitidx : t.bitidx ≠ s.bitidx →
    (e = .host 0x80#8 ∧ busy s = false) ∨
    (e = .engine ∧ (s.phase = .respHigh ∨ s.phase = .bitHigh))
  buf : t.buf ≠ s.buf →
    (e = .host 0x80#8 ∧ busy s = false ∧ t.buf = ⟨0, 0, 0, 0, 0⟩) ∨
    (e = .engine ∧ s.phase = .bitHigh)
  errk : t.errk ≠ s.errk →
    (e = .host 0x80#8 ∧ busy s = false ∧ t.errk = .none) ∨
    (e = .engine ∧ s.phase ≠ .failed ∧ t.phase = .failed)
  fault : t.fault ≠ s.fault ∨ t.fcause ≠ s.fcause →
    (∃ w, e = .host w) ∧ s.fault = false ∧ t.fault = true

/-- The registers of `t` are those of `s`. -/
def State.sameRegisters (s t : State) : Prop :=
  t = { s with resp := t.resp, drive := t.drive, sched := t.sched, free := t.free }

/-- A step that writes no register writes only the named ones. -/
theorem writesNamed_of_sameRegisters {s t : State} (h : s.sameRegisters t) (e : Event) :
    WritesNamed e s t := by
  rw [h]
  constructor <;> simp

theorem exists_eq_of_sameRegisters {s t : State} (h : s.sameRegisters t) :
    ∃ q d es f, t = { s with resp := q, drive := d, sched := es, free := f } :=
  ⟨_, _, _, _, h⟩

theorem sameRegisters_self (s : State) : s.sameRegisters s := rfl

theorem sameRegisters_answer (r : Response) (s : State) : s.sameRegisters (answer r s) := rfl

theorem sameRegisters_afterPin (s : State) : s.sameRegisters (afterPin s) := by
  rcases afterPin_cases s with h | h | h <;> rw [h] <;> rfl

theorem State.sameRegisters.trans {s t u : State} (h : s.sameRegisters t)
    (h' : t.sameRegisters u) : s.sameRegisters u := by
  rw [State.sameRegisters] at h h' ⊢
  rw [h', h]

theorem sameRegisters_sensorStep (l : Level) (s : State) : s.sameRegisters (sensorStep l s) := by
  cases hm : s.mode with
  | output => rw [sensorStep_output hm]; rfl
  | input => rw [sensorStep_input hm]; rfl

theorem writesNamed_raiseFault (w : Byte) (c : FCause) (s : State) :
    WritesNamed (.host w) s (raiseFault c s) := by
  constructor
  case fault => cases hf : s.fault <;> simp [hf]
  all_goals simp

theorem encode_setmode (m : Mode) :
    encode (.setmode m) = 0x10#8 ∨ encode (.setmode m) = 0x11#8 := by
  cases m
  · exact .inl rfl
  · exact .inr rfl

theorem encode_write (v : Level) : encode (.write v) = 0x20#8 ∨ encode (.write v) = 0x21#8 := by
  cases v
  · exact .inl rfl
  · exact .inr rfl

theorem encode_tmrctl (r : Bool) :
    encode (.tmrctl r) = 0x60#8 ∧ r = false ∨ encode (.tmrctl r) = 0x61#8 ∧ r = true := by
  cases r
  · exact .inl ⟨rfl, rfl⟩
  · exact .inr ⟨rfl, rfl⟩

theorem Effect.writesNamed {i : Instr} {s t : State} (h : Effect i s t) :
    WritesNamed (.host (encode i)) s t := by
  cases h with
  | fault c _ e => rw [e]; exact writesNamed_raiseFault _ c s
  | setmode m hi hb e => subst hi e; have := encode_setmode m; constructor <;> simp [hb]; tauto
  | write v hi hb _ e => subst hi e; have := encode_write v; constructor <;> simp [hb]; tauto
  | rsttmr hi hb e => subst hi e; constructor <;> simp [hb, encode]
  | tmrctl r hi hb e => subst hi e; have := encode_tmrctl r; constructor <;> simp [hb]; tauto
  | start hi hb e => subst hi e; constructor <;> simp [hb, encode, Buffer.zero]
  | read _ _ e =>
    rw [e]
    have hsame := (sameRegisters_afterPin s).trans (sameRegisters_answer (.level (pin s)) _)
    exact writesNamed_of_sameRegisters hsame _
  | elapsed _ _ e | rdstat _ e | rdbyte _ _ _ e | rdfault _ e =>
    rw [e]; exact writesNamed_of_sameRegisters (sameRegisters_answer _ s) _

theorem writesNamed_engineStep (s : State) : WritesNamed .engine s (engineStep s) := by
  rcases engineStep_cases s with ⟨-, h⟩ | ⟨-, -, h⟩ | ⟨hb, hmove⟩
  · rw [h]; exact writesNamed_of_sameRegisters (sameRegisters_self s) _
  · rw [h]; exact writesNamed_of_sameRegisters (sameRegisters_afterPin s) _
  · cases hmove with
    | holdLow h _ e | holdHigh h _ e | respRise h _ e | respFall h _ e | bitRise h _ e
    | bitFall h _ _ e | lastFall h _ _ e =>
      rw [e]; constructor <;> simp [h, busy]
    | noResponse h _ e | timeout h _ e =>
      rcases h with ⟨h, -⟩ | ⟨h, -⟩ <;> rw [e] <;> constructor <;> simp [h]

theorem writesNamed_clockStep (s : State) : WritesNamed .clock s (clockStep s) := by
  constructor <;> simp
  cases s.trun <;> simp

theorem runEvent_writesNamed {e : Event} {s t : State} (he : e ≠ .reset)
    (h : runEvent e s = .next t) : WritesNamed e s t := by
  cases e with
  | host w =>
    rcases effect_of_runEvent_host h with rfl | ⟨i, rfl, heffect⟩
    · exact writesNamed_raiseFault w _ s
    · exact heffect.writesNamed
  | engine => cases h; exact writesNamed_engineStep s
  | clock => cases h; exact writesNamed_clockStep s
  | sensor l =>
    cases h
    exact writesNamed_of_sameRegisters (sameRegisters_sensorStep l s) _
  | reset => exact absurd rfl he

/-- Settles O37: each agent's step writes only the registers named for it. -/
theorem onlyNamedStepsWriteARegister : Obligations.OnlyNamedStepsWriteARegister := by
  intro s t h he
  obtain ⟨-, hrun⟩ := step_next h
  rw [nextEvent_eq] at hrun
  obtain ⟨hcfg, hmode, hlatch, htcount, htrun, hbitidx, hbuf, herrk, hfault⟩ :=
    runEvent_writesNamed he hrun
  exact ⟨hcfg, hmode, hlatch, htcount, htrun, hbitidx, hbuf, herrk, hfault⟩

end Sys2Proof.Machine

/-! ## The invariant (10_state.md sections 2 and 3; 42_bitframe.md R195)

Reset meets it and each agent's step keeps it. A step that writes the inputs, the timer or the line
alone is one lemma; each of the engine's moves is the clauses of the state it enters. -/

namespace Sys2Proof.Machine

/-- Settles O39: every clause at the reset values. -/
theorem resetMeetsTheInvariant : Obligations.ResetMeetsTheInvariant := by
  unfold Obligations.ResetMeetsTheInvariant
  constructor <;> decide

/-- A reset under any configuration and inputs. -/
theorem inv_resetStep (s : State) : (resetStep s).Inv where
  tcount_fits := Nat.zero_le _
  bitidx_le := Nat.zero_le _
  cause_iff_fault := ⟨fun _ => rfl, fun _ => rfl⟩
  errk_iff_failed := ⟨fun _ => nofun, fun _ => rfl⟩
  start_low_line h := nomatch h
  start_high_line h := nomatch h
  wait_line h := by simp at h
  bitidx_zero _ := rfl
  bitidx_done h := nomatch h
  unread_zero _ i _ _ := Buffer.streamBit_zero i

/-! ### Steps that move no phase -/

/-- No clause speaks of the response, the inputs or TRUN, and TCOUNT has its width alone. -/
theorem State.Inv.with_timer_and_inputs {s : State} (h : s.Inv) {n : Nat}
    (hn : n ≤ 2 ^ s.cfg.timerBits - 1) (r : Bool) (q : Option Response) (d : Option Level)
    (es : List Event) (f : Nat) :
    State.Inv { s with tcount := n, trun := r, resp := q, drive := d, sched := es, free := f } where
  tcount_fits := hn
  bitidx_le := h.bitidx_le
  cause_iff_fault := h.cause_iff_fault
  errk_iff_failed := h.errk_iff_failed
  start_low_line := h.start_low_line
  start_high_line := h.start_high_line
  wait_line := h.wait_line
  bitidx_zero := h.bitidx_zero
  bitidx_done := h.bitidx_done
  unread_zero := h.unread_zero

theorem State.Inv.of_sameRegisters {s t : State} (h : s.Inv) (hst : s.sameRegisters t) : t.Inv := by
  rw [hst]
  exact h.with_timer_and_inputs h.tcount_fits s.trun _ _ _ _

/-- The clauses of the line bind while busy alone. -/
theorem State.Inv.with_line {s : State} (h : s.Inv) (hb : busy s = false) (m : Mode) (l : Level) :
    State.Inv { s with mode := m, latch := l } := by
  have hidle {p : Phase} (hp : s.phase = p) : p = .idle ∨ p = .done ∨ p = .failed :=
    hp ▸ busy_eq_false_iff.mp hb
  exact {
    tcount_fits := h.tcount_fits
    bitidx_le := h.bitidx_le
    cause_iff_fault := h.cause_iff_fault
    errk_iff_failed := h.errk_iff_failed
    start_low_line := fun hp => by simpa using hidle hp
    start_high_line := fun hp => by simpa using hidle hp
    wait_line := fun hp => by rcases hp with hp | hp | hp | hp <;> simpa using hidle hp
    bitidx_zero := h.bitidx_zero
    bitidx_done := h.bitidx_done
    unread_zero := h.unread_zero }

theorem State.Inv.raiseFault {s : State} (h : s.Inv) {c : FCause} (hc : c ≠ .none) :
    (raiseFault c s).Inv where
  tcount_fits := h.tcount_fits
  bitidx_le := h.bitidx_le
  cause_iff_fault := by
    have hkept : s.fault = true → s.fcause ≠ .none := fun hf hn =>
      Bool.false_ne_true ((h.cause_iff_fault.mp hn).symm.trans hf)
    cases hf : s.fault <;> simp [hf, hc, hkept]
  errk_iff_failed := h.errk_iff_failed
  start_low_line := h.start_low_line
  start_high_line := h.start_high_line
  wait_line := h.wait_line
  bitidx_zero := h.bitidx_zero
  bitidx_done := h.bitidx_done
  unread_zero := h.unread_zero

/-! ### START -/

theorem State.Inv.beginCycle {s : State} (h : s.Inv) : (beginCycle s).Inv where
  tcount_fits := Nat.zero_le _
  bitidx_le := Nat.zero_le _
  cause_iff_fault := h.cause_iff_fault
  errk_iff_failed := ⟨fun _ => nofun, fun _ => rfl⟩
  start_low_line _ := ⟨rfl, rfl⟩
  start_high_line h := nomatch h
  wait_line h := by simp at h
  bitidx_zero _ := rfl
  bitidx_done h := nomatch h
  unread_zero _ i _ _ := Buffer.streamBit_zero i

theorem Effect.keeps_inv {i : Instr} {s t : State} (h : Effect i s t) (hs : s.Inv) : t.Inv := by
  have hsilent {u : State} (hu : u.Inv) : (silent u).Inv := hu.of_sameRegisters rfl
  have hanswer {u : State} (hu : u.Inv) (r : Response) : (answer r u).Inv :=
    hu.of_sameRegisters rfl
  cases h with
  | fault _ hc e => exact e ▸ hs.raiseFault hc
  | setmode m _ hb e => exact e ▸ hsilent (hs.with_line hb m s.latch)
  | write v _ hb _ e => exact e ▸ hsilent (hs.with_line hb s.mode v)
  | rsttmr _ _ e => exact e ▸ hs.with_timer_and_inputs (Nat.zero_le _) s.trun _ _ _ _
  | tmrctl r _ _ e => exact e ▸ hs.with_timer_and_inputs hs.tcount_fits r _ _ _ _
  | start _ _ e => exact e ▸ hsilent hs.beginCycle
  | read _ _ e => exact e ▸ hanswer (hs.of_sameRegisters (sameRegisters_afterPin s)) _
  | elapsed _ _ e | rdstat _ e | rdbyte _ _ _ e | rdfault _ e => exact e ▸ hanswer hs _

/-! ### The engine's moves -/

/-- While busy no error kind is recorded. -/
theorem State.Inv.errk_none {s : State} (h : s.Inv) (hb : busy s = true) : s.errk = .none :=
  h.errk_iff_failed.mpr fun hf => by simp [busy, hf] at hb

theorem State.Inv.unread {s : State} (h : s.Inv) (hb : busy s = true) {i : Nat}
    (hi : s.bitidx.toNat ≤ i) (hi' : i < 40) : s.buf.streamBit i = false :=
  h.unread_zero (.inl hb) i hi hi'

/-- Packing the bit at BITIDX leaves the later ones unread. -/
theorem State.Inv.unread_pack {s : State} (h : s.Inv) (hb : busy s = true) (b : Bool) {i : Nat}
    (hi : s.bitidx.toNat + 1 ≤ i) (hi' : i < 40) :
    (pack s.buf s.bitidx.toNat b).streamBit i = false := by
  rw [streamBit_pack _ (by omega), if_neg (by omega)]
  exact h.unread hb (by omega) hi'

/-- The clauses of the four wait states: the line is released and what BITIDX has not reached is
unread. -/
theorem State.Inv.enters_wait {s : State} (hs : s.Inv) (hb : busy s = true) {m : Mode}
    {i : BitVec 6} {B : Buffer} {p : Phase} {q : Option Response} {d : Option Level}
    {es : List Event} {f : Nat}
    (hp : p = .respLow ∨ p = .respHigh ∨ p = .bitLow ∨ p = .bitHigh)
    (hm : m = .input) (hl : s.latch = .high) (hi : i.toNat ≤ 39)
    (hzero : p = .respLow ∨ p = .respHigh → i = 0)
    (hunread : ∀ k, i.toNat ≤ k → k < 40 → B.streamBit k = false) :
    State.Inv { s with mode := m, tcount := 0, bitidx := i, buf := B, phase := p, resp := q,
                       drive := d, sched := es, free := f } where
  tcount_fits := Nat.zero_le _
  bitidx_le := hi
  cause_iff_fault := hs.cause_iff_fault
  errk_iff_failed := by rcases hp with h | h | h | h <;> simp [h, hs.errk_none hb]
  start_low_line h := by simp [show p = .startLow from h] at hp
  start_high_line h := by simp [show p = .startHigh from h] at hp
  wait_line _ := ⟨hm, hl⟩
  bitidx_zero h := by
    rcases hp with hp | hp | hp | hp
    · exact hzero (.inl hp)
    · exact hzero (.inr hp)
    · simp [hp, hs.errk_none hb] at h
    · simp [hp, hs.errk_none hb] at h
  bitidx_done h := by simp [show p = .done from h] at hp
  unread_zero _ := hunread

/-- The clauses of Failed: the cycle's line, BITIDX and B stay as the failure found them. -/
theorem State.Inv.enters_failed {s : State} (hs : s.Inv) (hb : busy s = true) {k : Errk}
    {q : Option Response} {d : Option Level} {es : List Event} {f : Nat} (hk : k ≠ .none)
    (hzero : k = .noResponse → s.bitidx = 0) :
    State.Inv { s with errk := k, phase := .failed, resp := q, drive := d, sched := es, free := f }
    where
  tcount_fits := hs.tcount_fits
  bitidx_le := hs.bitidx_le
  cause_iff_fault := hs.cause_iff_fault
  errk_iff_failed := by simp [hk]
  start_low_line := nofun
  start_high_line := nofun
  wait_line := by simp
  bitidx_zero := by simpa using hzero
  bitidx_done := nofun
  unread_zero _ _ := hs.unread hb

/-- The clauses of StartHigh and of Done, which no other move enters, stand in their cases. -/
theorem Move.keeps_inv {s t u : State} (h : Move s t u) (hst : s.sameRegisters t) (hs : s.Inv) :
    u.Inv := by
  have hb : busy s = true := busy_of_move h
  have herrk : s.errk = .none := hs.errk_none hb
  obtain ⟨q, d, es, f, rfl⟩ := exists_eq_of_sameRegisters hst
  cases h with
  | holdLow h _ e =>
    subst e
    obtain ⟨hmode, -⟩ := hs.start_low_line h
    exact {
      tcount_fits := Nat.zero_le _
      bitidx_le := hs.bitidx_le
      cause_iff_fault := hs.cause_iff_fault
      errk_iff_failed := ⟨fun _ => nofun, fun _ => herrk⟩
      start_low_line := nofun
      start_high_line := fun _ => ⟨hmode, rfl⟩
      wait_line := by simp
      bitidx_zero := fun _ => hs.bitidx_zero (.inl h)
      bitidx_done := nofun
      unread_zero := fun _ _ => hs.unread hb }
  | holdHigh h _ e =>
    subst e
    obtain ⟨-, hlatch⟩ := hs.start_high_line h
    exact hs.enters_wait hb (.inl rfl) rfl hlatch hs.bitidx_le
      (fun _ => hs.bitidx_zero (.inr (.inl h))) fun _ => hs.unread hb
  | respRise h _ e =>
    subst e
    obtain ⟨hmode, hlatch⟩ := hs.wait_line (.inl h)
    exact hs.enters_wait hb (.inr (.inl rfl)) hmode hlatch hs.bitidx_le
      (fun _ => hs.bitidx_zero (.inr (.inr (.inl h)))) fun _ => hs.unread hb
  | respFall h _ e =>
    subst e
    obtain ⟨hmode, hlatch⟩ := hs.wait_line (.inr (.inl h))
    have hzero : s.bitidx = 0 := hs.bitidx_zero (.inr (.inr (.inr (.inl h))))
    exact hs.enters_wait hb (.inr (.inr (.inl rfl))) hmode hlatch (Nat.zero_le _) (fun _ => rfl)
      fun k hk => hs.unread hb (hzero ▸ hk)
  | bitRise h _ e =>
    subst e
    obtain ⟨hmode, hlatch⟩ := hs.wait_line (.inr (.inr (.inl h)))
    exact hs.enters_wait hb (.inr (.inr (.inr rfl))) hmode hlatch hs.bitidx_le (by simp)
      fun _ => hs.unread hb
  | bitFall h _ hi e =>
    subst e
    obtain ⟨hmode, hlatch⟩ := hs.wait_line (.inr (.inr (.inr h)))
    have hlt : s.bitidx.toNat < 39 := by
      have := hs.bitidx_le
      bv_omega
    have hnext : (s.bitidx + 1).toNat = s.bitidx.toNat + 1 := toNat_bitidx_succ hlt
    exact hs.enters_wait hb (.inr (.inr (.inl rfl))) hmode hlatch (by omega) (by simp)
      fun k hk => hs.unread_pack hb _ (hnext ▸ hk)
  | lastFall h _ hi e =>
    subst e
    exact {
      tcount_fits := hs.tcount_fits
      bitidx_le := hs.bitidx_le
      cause_iff_fault := hs.cause_iff_fault
      errk_iff_failed := ⟨fun _ => nofun, fun _ => herrk⟩
      start_low_line := nofun
      start_high_line := nofun
      wait_line := by simp
      bitidx_zero := by simp [herrk]
      bitidx_done := fun _ => hi
      unread_zero := by simp [busy] }
  | noResponse h _ e =>
    subst e
    have hzero : s.bitidx = 0 := by
      rcases h with ⟨h, -⟩ | ⟨h, -⟩
      · exact hs.bitidx_zero (.inr (.inr (.inl h)))
      · exact hs.bitidx_zero (.inr (.inr (.inr (.inl h))))
    exact hs.enters_failed hb nofun fun _ => hzero
  | timeout h _ e =>
    subst e
    exact hs.enters_failed hb nofun nofun

theorem State.Inv.engineStep {s : State} (hs : s.Inv) : (engineStep s).Inv := by
  rcases engineStep_cases s with ⟨-, h⟩ | ⟨-, -, h⟩ | ⟨-, hmove⟩
  · rw [h]; exact hs
  · rw [h]; exact hs.of_sameRegisters (sameRegisters_afterPin s)
  · exact hmove.keeps_inv (sameRegisters_afterPin s) hs

/-! ### Every step -/

theorem State.Inv.clockStep {s : State} (hs : s.Inv) : (clockStep s).Inv := by
  cases hr : s.trun with
  | true =>
    rw [clockStep_running hr]
    exact hs.with_timer_and_inputs (min_le_right _ _) s.trun _ _ _ _
  | false => rwa [clockStep_stopped hr]

theorem State.Inv.runEvent {e : Event} {s t : State} (hs : s.Inv) (h : runEvent e s = .next t) :
    t.Inv := by
  cases e with
  | host w =>
    rcases effect_of_runEvent_host h with rfl | ⟨i, -, heffect⟩
    · exact hs.raiseFault (by decide)
    · exact heffect.keeps_inv hs
  | engine => cases h; exact hs.engineStep
  | clock => cases h; exact hs.clockStep
  | sensor l => cases h; exact hs.of_sameRegisters (sameRegisters_sensorStep l s)
  | reset => cases h; exact inv_resetStep s

/-- Settles O38: taking the turn off the schedule writes no register, and each agent's step keeps
the invariant. -/
theorem stepKeepsTheInvariant : Obligations.StepKeepsTheInvariant := by
  intro s t hs h
  obtain ⟨-, hrun⟩ := step_next h
  have hnext : s.sameRegisters (nextEvent s).2 := by rw [nextEvent_eq]; rfl
  exact (hs.of_sameRegisters hnext).runEvent hrun

end Sys2Proof.Machine

/-! ## The single call per cycle (44_host.md R245)

A call's step is CYCLE's step, whose end it replaces by the reading of the outcome, and CLASS and
ERR of the last STATUS are those of the state it was read in. -/

namespace Sys2Proof.Machine

/-! ### The outcome from CLASS and ERR -/

theorem errorResult_statusWord (s : State) :
    errorResult (errFieldBits (statusWord s)) = errorResult (errField s) :=
  congrArg errorResult (statusWord_err s)

/-- Where the call goes on a CLASS and an ERR. -/
def outcomeOf (c : StatusClass) (err : BitVec 2) : HostSeq :=
  match c with
  | .ready => .takeHint
  | .error => .outcome (errorResult err)
  | .idle | .busy => .outcome .noResult

theorem readOutcome_statusWord (s : State) :
    HostSeq.readOutcome (statusWord s) = outcomeOf (statusClass s) (errField s) := by
  rw [HostSeq.readOutcome, statusClassBits_statusWord, errorResult_statusWord]
  cases statusClass s <;> rfl

/-- In every state that is not Ready, CLASS and ERR say the validated outcome. -/
theorem outcomeOf_not_ready {s : State} (h : statusClass s ≠ .ready) :
    outcomeOf (statusClass s) (errField s) = .outcome (cycleResult s) := by
  cases hb : busy s with
  | true => rw [statusClass_eq_busy_iff.mpr hb, cycleResult_busy hb]; rfl
  | false =>
    rcases busy_eq_false_iff.mp hb with hidle | hdone | hfailed
    · rw [statusClass_idle hidle, cycleResult_idle hidle]; rfl
    · have hbad : checksumOk s.buf = false :=
        Bool.eq_false_iff.mpr fun hc => h (ready_iff.mpr ⟨hdone, hc⟩)
      rw [statusClass_done_bad hdone hbad, errField_done_bad hdone hbad,
        cycleResult_done_bad hdone hbad]
      rfl
    · rw [statusClass_failed hfailed, errField_failed hfailed, cycleResult, hfailed]
      cases s.errk <;> rfl

/-! ### One step of the call -/

theorem HostSeq.issueCall_of_issue {q p : HostSeq} {s t : State} (h : q.issue s = (p, t))
    (hp : ∀ st, p ≠ .exit (some st)) : q.issueCall s = (p, t) := by
  rw [HostSeq.issueCall, h]
  split
  · next heq => exact absurd (congrArg Prod.fst heq) (hp _)
  · rfl

theorem HostSeq.issueCall_of_exit {q : HostSeq} {st : Byte} {s t : State}
    (h : q.issue s = (.exit (some st), t)) : q.issueCall s = (readOutcome st, t) := by
  rw [HostSeq.issueCall, h]

theorem issueCall_cycleRead (s : State) : HostSeq.cycleRead.issueCall s =
    (outcomeOf (statusClass s) (errField s), { s with resp := some (.status (statusWord s)) }) := by
  rw [HostSeq.issueCall_of_exit (HostSeq.issue_rdstat rfl s), readOutcome_statusWord]

/-- A control point that takes byte `k` of the window, in a Ready state. -/
theorem issueCall_rdbyte {q : HostSeq} {k : BitVec 2} {s : State}
    (hq : q.command = some (.rdbyte k)) (hr : statusClass s = .ready)
    (hp : ∀ st, q.advance (some (.byte (window s.buf k))) ≠ .exit (some st)) :
    q.issueCall s = (q.advance (some (.byte (window s.buf k))),
      { s with resp := some (.byte (window s.buf k)) }) :=
  HostSeq.issueCall_of_issue (HostSeq.issue_eq hq (exec_rdbyte_ready hr k)) hp

/-- An ended cycle has an outcome: its checksum is right or wrong, or an error kind is recorded. -/
theorem outcome_of_ended {s : State} (hs : s.Inv) (h : s.ended) :
    (∃ hi hf ti tf, cycleResult s = .reading hi hf ti tf) ∨ ∃ k, cycleResult s = .error k := by
  rcases h with hdone | hfailed
  · cases hc : checksumOk s.buf with
    | true => exact .inl ⟨_, _, _, _, cycleResult_done_good hdone hc⟩
    | false => exact .inr ⟨_, cycleResult_done_bad hdone hc⟩
  · cases hk : s.errk with
    | none => exact absurd hfailed (hs.errk_iff_failed.mp hk)
    | noResponse => exact .inr ⟨_, cycleResult_failed_noResponse hfailed hk⟩
    | timeout => exact .inr ⟨_, cycleResult_failed_timeout hfailed hk⟩

/-- Settles O48: CYCLE's steps do not end it before its last RDSTAT, whose CLASS and ERR give the
outcome or the four RDBYTEs that read it. -/
theorem callYieldsTheOutcome : Obligations.CallYieldsTheOutcome := by
  refine ⟨fun q hq s => ?cycle, fun s => ⟨?status, fun hr => ?ready, fun hr => ?notReady⟩,
    fun s hr => ⟨?hint, fun h => ?hfrac, fun h f => ?tint, ?tfrac⟩, fun s => outcome_of_ended⟩
  case cycle =>
    obtain ⟨-, ⟨t, -, hstart⟩, hwait, -⟩ := hostSequencesExpand s
    simp only [List.mem_cons, List.not_mem_nil, or_false] at hq
    rcases hq with rfl | rfl
    · rw [hstart]
      exact HostSeq.issueCall_of_issue hstart fun _ => nofun
    · rw [hwait]
      exact HostSeq.issueCall_of_issue hwait fun _ => by split <;> nofun
  case status => rw [issueCall_cycleRead]
  case ready => rw [issueCall_cycleRead, hr]; rfl
  case notReady => rw [issueCall_cycleRead]; exact outcomeOf_not_ready hr
  case hint => exact issueCall_rdbyte (q := .takeHint) rfl hr fun _ => nofun
  case hfrac => exact issueCall_rdbyte (q := .takeHfrac h) rfl hr fun _ => nofun
  case tint => exact issueCall_rdbyte (q := .takeTint h f) rfl hr fun _ => nofun
  case tfrac =>
    obtain ⟨hdone, hc⟩ := ready_iff.mp hr
    rw [cycleResult_done_good hdone hc]
    exact issueCall_rdbyte (q := .takeTfrac _ _ _) rfl hr fun _ => nofun

end Sys2Proof.Machine

/-! ## The host in a good run (60_exceptions.md R307; 70_reset_and_hazards.md R346, R352)

Each contract the host can break raises a fault, which a good run never has. -/

namespace Sys2Proof.Machine

/-- A word that raised no fault kept every contract. -/
theorem contract_kept {w : Byte} {s t : State} (h : runEvent (.host w) s = .next t)
    (ht : t.fault = false) :
    (∃ i, decode w = .ok i) ∧
    (busy s = true → w ∈ [0x90#8, 0xB0#8]) ∧
    (s.mode = .input → w ∉ [0x20#8, 0x21#8]) ∧
    (statusClass s ≠ .ready → w ∉ [0xA0#8, 0xA1#8, 0xA2#8, 0xA3#8]) := by
  have hno {c : FCause} : runEvent (.host w) s ≠ .next (raiseFault c s) := fun hc => by
    cases h.symm.trans hc
    cases ht
  obtain ⟨hillegal, hline, hstart, hwrite, hrdbyte⟩ := faultChecksAreOrdered w s
  have hlegal : ∃ i, decode w = .ok i := by
    by_contra hall
    exact hno (hillegal (not_exists.mp hall))
  obtain ⟨i, hd⟩ := hlegal
  refine ⟨⟨i, hd⟩, fun hb => ?busy, fun hm hmem => ?input, fun hr hmem => ?notReady⟩
  case busy =>
    cases i with
    | setmode | write | read | rsttmr | elapsed | tmrctl =>
      exact absurd (hline _ hd hb (by simp)) hno
    | start => exact absurd (hstart hd hb) hno
    | rdbyte k => exact absurd (hrdbyte k hd (by simp [statusClass_eq_busy_iff.mpr hb])) hno
    | rdstat | rdfault => rw [← encode_of_decode hd]; decide
  case input =>
    have hwr : ∃ v, decode w = .ok (.write v) := by
      simp only [List.mem_cons, List.not_mem_nil, or_false] at hmem
      rcases hmem with rfl | rfl <;> exact ⟨_, rfl⟩
    obtain ⟨v, hv⟩ := hwr
    cases hb : busy s with
    | true => exact hno (hline _ hv hb (.inr (.inl ⟨v, rfl⟩)))
    | false => exact hno (hwrite v hv hb hm)
  case notReady =>
    have hrd : ∃ k, decode w = .ok (.rdbyte k) := by
      simp only [List.mem_cons, List.not_mem_nil, or_false] at hmem
      rcases hmem with rfl | rfl | rfl | rfl <;> exact ⟨_, rfl⟩
    obtain ⟨k, hk⟩ := hrd
    exact hno (hrdbyte k hk hr)

/-- A run that goes on makes its next step from where it stands. -/
theorem step_of_run {j : Nat} {s t u : State} (ht : Host.Core.run Sys2Proof.core j s = .next t)
    (hu : Host.Core.run Sys2Proof.core (j + 1) s = .next u) : step t = .next u := by
  rw [core_run_add ht 1] at hu
  obtain ⟨v, hstep, hv⟩ := core_run_succ_cases hu
  cases hv
  exact hstep

/-- Settles O44: the state after the word is one of the run's, so FAULT = 0 there. -/
theorem goodRunBreaksNoContract : Obligations.GoodRunBreaksNoContract := by
  rintro s k ⟨hgood, -⟩ j t w hj ht hw
  obtain ⟨u, hu, hfault⟩ := hgood (j + 1) hj
  obtain ⟨-, hrun⟩ := step_next (step_of_run ht hu)
  rw [hw, nextEvent_eq] at hrun
  exact (contract_kept hrun hfault :)

end Sys2Proof.Machine

/-! ## A cycle with the timer stopped (70_reset_and_hazards.md R345, R352)

No step but a reset leaves StartLow while TCOUNT = 0 and TRUN = 0, and a reset leaves the cycle
without ending it. -/

namespace Sys2Proof.Machine

theorem Config.holds_pos {c : Config} (h : c.wf = true) : 0 < c.tStartLow ∧ 0 < c.tStartHigh := by
  obtain ⟨hlow, hhigh, -, -, -, -, ⟨-, hden⟩, -⟩ := c.wf_iff.mp h
  exact ⟨Nat.pos_of_ne_zero fun h0 => by rw [h0] at hlow; omega,
    Nat.pos_of_ne_zero fun h0 => by rw [h0] at hhigh; omega⟩

/-- The engine holds the line low and no time passes. -/
structure State.Stuck (s : State) : Prop where
  wf : s.cfg.wf = true
  phase_eq : s.phase = .startLow
  tcount_eq : s.tcount = 0
  trun_eq : s.trun = false

theorem State.Stuck.waits {s : State} (h : s.Stuck) : Waits s :=
  .inl ⟨h.phase_eq, h.tcount_eq ▸ (Config.holds_pos h.wf).1⟩

theorem State.Stuck.of_eq {s t : State} (h : s.Stuck) (hcfg : t.cfg = s.cfg)
    (hphase : t.phase = s.phase) (hcount : t.tcount = s.tcount) (hrun : t.trun = s.trun) :
    t.Stuck :=
  ⟨hcfg ▸ h.wf, hphase.trans h.phase_eq, hcount.trans h.tcount_eq, hrun.trans h.trun_eq⟩

theorem runEvent_of_stuck {e : Event} {s t : State} (hs : s.Stuck) (he : e ≠ .reset)
    (h : runEvent e s = .next t) : t.Stuck ∧ t.sched = s.sched := by
  cases e with
  | host w =>
    rcases runEvent_host_busy_cases (busy_of_waits hs.waits) h with ⟨c, rfl⟩ | ⟨r, rfl⟩
    · exact ⟨hs.of_eq rfl rfl rfl rfl, rfl⟩
    · exact ⟨hs.of_eq rfl rfl rfl rfl, rfl⟩
  | engine =>
    cases (runEvent_engine_of_waits hs.waits).symm.trans h
    exact ⟨hs.of_eq (afterPin_cfg s) (afterPin_phase s) (afterPin_tcount s) (afterPin_trun s),
      afterPin_sched s⟩
  | clock =>
    cases h
    rw [clockStep_stopped hs.trun_eq]
    exact ⟨hs, rfl⟩
  | sensor l =>
    cases h
    exact ⟨hs.of_eq (sensorStep_cfg l s) (sensorStep_phase l s) (sensorStep_tcount l s)
      (sensorStep_trun l s), sensorStep_sched l s⟩
  | reset => exact absurd rfl he

theorem step_of_stuck {s t : State} (hs : s.Stuck) (h : step s = .next t) :
    t.Stuck ∨ t.phase = .idle := by
  obtain ⟨-, hrun⟩ := step_next h
  have hnext : (nextEvent s).2.Stuck := by rw [nextEvent_eq]; exact hs.of_eq rfl rfl rfl rfl
  by_cases he : (nextEvent s).1 = .reset
  · rw [he] at hrun
    cases hrun
    exact .inr rfl
  · exact .inl (runEvent_of_stuck hnext he hrun).1

/-- While the cycle is inside its run, it has not ended. -/
theorem not_ended_of_stuck {i : Nat} {s u : State} (hs : s.Stuck)
    (hbusy : ∀ m < i, ∃ v, Host.Core.run Sys2Proof.core m s = .next v ∧ busy v = true)
    (hu : Host.Core.run Sys2Proof.core i s = .next u) : ¬ u.ended := by
  induction i generalizing s with
  | zero =>
    cases hu
    simp [State.ended, hs.phase_eq]
  | succ i ih =>
    obtain ⟨t, hstep, hrest⟩ := core_run_succ_cases hu
    have hbusy' : ∀ m < i, ∃ v, Host.Core.run Sys2Proof.core m t = .next v ∧ busy v = true :=
      fun m hm => core_run_succ_next hstep m ▸ hbusy (m + 1) (by omega)
    rcases step_of_stuck hs hstep with ht | hidle
    · exact ih ht hbusy' hrest
    · cases i with
      | zero =>
        cases hrest
        simp [State.ended, hidle]
      | succ i =>
        obtain ⟨v, hv, hb⟩ := hbusy' 0 i.succ_pos
        cases hv
        simp [busy_eq_false_iff.mpr (.inl hidle)] at hb

theorem run_of_stuck {k : Nat} {s u : State} (hs : s.Stuck) (hreset : .reset ∉ s.sched)
    (hk : k ≤ s.sched.length) (hu : Host.Core.run Sys2Proof.core k s = .next u) : u.Stuck := by
  induction k generalizing s with
  | zero => cases hu; exact hs
  | succ k ih =>
    obtain ⟨t, hstep, hrest⟩ := core_run_succ_cases hu
    obtain ⟨e, es, hsched⟩ := List.exists_cons_of_length_pos (Nat.zero_lt_of_lt hk)
    rw [step_cons hs.wf hsched] at hstep
    rw [hsched, List.mem_cons, not_or] at hreset
    obtain ⟨he, hes⟩ := hreset
    have hs' : State.Stuck { s with sched := es } := hs.of_eq rfl rfl rfl rfl
    obtain ⟨ht, hkept⟩ := runEvent_of_stuck hs' (Ne.symm he) hstep
    refine ih ht (by rwa [hkept]) ?_ hrest
    rw [hkept]
    simpa [hsched] using hk

/-- Settles O43: START with TRUN = 0 begins the stuck hold. -/
theorem stoppedTimerHangsTheCycle : Obligations.StoppedTimerHangsTheCycle := by
  intro s t es hw hr hb hstart
  cases (exec_start_idle hb).symm.trans hstart
  have hstuck : State.Stuck { silent (beginCycle s) with sched := es } := ⟨hw, rfl, rfl, hr⟩
  refine ⟨?hangs, fun u k hreset hk hu => ?stays⟩
  case hangs =>
    rintro k ⟨i, -, ⟨u, hu, hended⟩, hbusy⟩
    exact not_ended_of_stuck hstuck hbusy hu hended
  case stays =>
    obtain ⟨-, hphase, hcount, hrun⟩ := run_of_stuck hstuck hreset hk hu
    exact ⟨hphase, hcount, hrun⟩

end Sys2Proof.Machine

/-! ## A retried cycle (10_state.md R36)

No step reads FAULT, FCAUSE or the last response to decide what else it writes, so two runs that
begin alike but for these stay alike. -/

namespace Sys2Proof.Machine

/-- A move's guard and what it writes read none of the three fields. -/
theorem Move.sameCycle {s s' t t' u : State} (h : Move s t u) (hs : s.sameCycle s')
    (ht : t.sameCycle t') : ∃ u', Move s' t' u' ∧ u.sameCycle u' := by
  obtain ⟨f, c, r, rfl⟩ := exists_eq_of_sameCycle hs
  obtain ⟨f', c', r', rfl⟩ := exists_eq_of_sameCycle ht
  cases h with
  | holdLow h hE e => exact ⟨_, .holdLow h hE rfl, e ▸ rfl⟩
  | holdHigh h hE e => exact ⟨_, .holdHigh h hE rfl, e ▸ rfl⟩
  | respRise h hp e => exact ⟨_, .respRise h hp rfl, e ▸ rfl⟩
  | respFall h hp e => exact ⟨_, .respFall h hp rfl, e ▸ rfl⟩
  | bitRise h hp e => exact ⟨_, .bitRise h hp rfl, e ▸ rfl⟩
  | bitFall h hp hi e => exact ⟨_, .bitFall h hp hi rfl, e ▸ rfl⟩
  | lastFall h hp hi e => exact ⟨_, .lastFall h hp hi rfl, e ▸ rfl⟩
  | noResponse h hE e => exact ⟨_, .noResponse h hE rfl, e ▸ rfl⟩
  | timeout h hE e => exact ⟨_, .timeout h hE rfl, e ▸ rfl⟩

theorem waits_of_sameCycle {s s' : State} (h : s.sameCycle s') (hw : Waits s) : Waits s' := by
  obtain ⟨f, c, r, rfl⟩ := exists_eq_of_sameCycle h
  exact hw

theorem busy_of_sameCycle {s s' : State} (h : s.sameCycle s') : busy s' = busy s := by
  obtain ⟨f, c, r, rfl⟩ := exists_eq_of_sameCycle h
  rfl

theorem engineStep_sameCycle {s s' : State} (h : s.sameCycle s') :
    (engineStep s).sameCycle (engineStep s') := by
  rcases engineStep_cases s with ⟨hb, heq⟩ | ⟨-, hwaits, heq⟩ | ⟨-, hmove⟩
  · rw [heq, engineStep_quiescent ((busy_of_sameCycle h).trans hb)]
    exact h
  · have hwaits' := runEvent_engine_of_waits (waits_of_sameCycle h hwaits)
    rw [heq, Host.Outcome.next.inj hwaits']
    exact afterPin_sameCycle h
  · obtain ⟨u', hmove', hu⟩ := hmove.sameCycle h (afterPin_sameCycle h)
    rwa [Host.Outcome.next.inj (runEvent_engine_of_move hmove')]

theorem exec_sameCycle {i : Instr} {s s' t u : State} (h : s.sameCycle s')
    (ht : exec i s = .next t) (hu : exec i s' = .next u) : t.sameCycle u := by
  by_cases hreports : i = .rdstat ∨ i = .rdfault
  · obtain ⟨f, c, r, rfl⟩ := exists_eq_of_sameCycle h
    rcases hreports with rfl | rfl <;> cases ht <;> cases hu <;> rfl
  · obtain ⟨hstat, hcause⟩ := not_or.mp hreports
    exact (exec_sameButFault h hstat hcause ht hu).1

theorem clockStep_sameCycle {s s' : State} (h : s.sameCycle s') :
    (clockStep s).sameCycle (clockStep s') := by
  obtain ⟨f, c, r, rfl⟩ := exists_eq_of_sameCycle h
  unfold clockStep
  dsimp only
  split <;> rfl

theorem sensorStep_sameCycle {s s' : State} (h : s.sameCycle s') (l : Level) :
    (sensorStep l s).sameCycle (sensorStep l s') := by
  obtain ⟨f, c, r, rfl⟩ := exists_eq_of_sameCycle h
  unfold sensorStep
  dsimp only
  split <;> rfl

theorem resetStep_sameCycle {s s' : State} (h : s.sameCycle s') :
    (resetStep s).sameCycle (resetStep s') := by
  obtain ⟨f, c, r, rfl⟩ := exists_eq_of_sameCycle h
  rfl

theorem runEvent_sameCycle {e : Event} {s s' t u : State} (h : s.sameCycle s')
    (ht : runEvent e s = .next t) (hu : runEvent e s' = .next u) : t.sameCycle u := by
  cases e with
  | host w =>
    cases hd : decode w with
    | ok i =>
      rw [runEvent_host_ok hd] at ht hu
      exact exec_sameCycle h ht hu
    | error r =>
      cases (runEvent_host_illegal hd).symm.trans ht
      cases (runEvent_host_illegal hd).symm.trans hu
      exact (raiseFault_sameButFault h _).1
  | engine => cases ht; cases hu; exact engineStep_sameCycle h
  | clock => cases ht; cases hu; exact clockStep_sameCycle h
  | sensor l => cases ht; cases hu; exact sensorStep_sameCycle h l
  | reset => cases ht; cases hu; exact resetStep_sameCycle h

/-- The same agent is next, at states that are still alike. -/
theorem nextEvent_sameCycle {s s' : State} (h : s.sameCycle s') :
    (nextEvent s').1 = (nextEvent s).1 ∧ (nextEvent s).2.sameCycle (nextEvent s').2 := by
  obtain ⟨f, c, r, rfl⟩ := exists_eq_of_sameCycle h
  unfold nextEvent
  dsimp only
  split <;> exact ⟨rfl, rfl⟩

theorem step_sameCycle {s s' t u : State} (h : s.sameCycle s') (ht : step s = .next t)
    (hu : step s' = .next u) : t.sameCycle u := by
  obtain ⟨-, hrun⟩ := step_next ht
  obtain ⟨-, hrun'⟩ := step_next hu
  obtain ⟨hevent, hnext⟩ := nextEvent_sameCycle h
  rw [hevent] at hrun'
  exact runEvent_sameCycle hnext hrun hrun'

/-- No step writes the configuration. -/
theorem step_keeps_cfg {s t : State} (h : step s = .next t) : t.cfg = s.cfg := by
  by_cases he : (nextEvent s).1 = .reset
  · obtain ⟨-, hrun⟩ := step_next h
    rw [he, nextEvent_eq] at hrun
    cases hrun
    rfl
  · exact (onlyNamedStepsWriteARegister s t h he).1

/-- Runs from states alike are alike after every number of steps. -/
theorem run_sameCycle {s s' : State} (h : s.sameCycle s') (hw : s.cfg.wf = true) (k : Nat) :
    ∃ u v, Host.Core.run Sys2Proof.core k s = .next u ∧
      Host.Core.run Sys2Proof.core k s' = .next v ∧ u.sameCycle v := by
  induction k generalizing s s' with
  | zero => exact ⟨s, s', rfl, rfl, h⟩
  | succ k ih =>
    have hw' : s'.cfg.wf = true := by
      obtain ⟨f, c, r, rfl⟩ := exists_eq_of_sameCycle h
      exact hw
    obtain ⟨t, ht⟩ := step_has_next_of_wf hw
    obtain ⟨t', ht'⟩ := step_has_next_of_wf hw'
    rw [core_run_succ_next ht, core_run_succ_next ht']
    exact ih (step_sameCycle h ht ht') (step_keeps_cfg ht ▸ hw)

/-- START leaves nothing of an earlier cycle but FAULT and FCAUSE. -/
theorem beginCycle_sameCycle {s t : State} (hcfg : s.cfg = t.cfg) (hrun : s.trun = t.trun)
    (hdrive : s.drive = t.drive) (hsched : s.sched = t.sched) (hfree : s.free = t.free) :
    (silent (beginCycle s)).sameCycle (silent (beginCycle t)) := by
  simp only [State.sameCycle, silent, beginCycle, hcfg, hrun, hdrive, hsched, hfree]

theorem cycleResult_of_sameCycle {s s' : State} (h : s.sameCycle s') :
    cycleResult s = cycleResult s' := by
  obtain ⟨f, c, r, rfl⟩ := exists_eq_of_sameCycle h
  rfl

/-- Settles O45: START makes the two states alike, and every step keeps them so. -/
theorem cycleForgetsEarlierCycles : Obligations.CycleForgetsEarlierCycles := by
  intro s t s₁ t₁ hcfg hrun hdrive hsched hfree hw hs ht hs₁ ht₁ k
  cases (exec_start_idle hs).symm.trans hs₁
  cases (exec_start_idle ht).symm.trans ht₁
  obtain ⟨u, v, hu, hv, huv⟩ :=
    run_sameCycle (beginCycle_sameCycle hcfg hrun hdrive hsched hfree) hw k
  exact ⟨u, v, hu, hv, huv, cycleResult_of_sameCycle huv⟩

end Sys2Proof.Machine

/-! ## The end of a cycle (42_bitframe.md R196)

Every busy state has a budget of ticks, after which the engine's next step moves on. The ticks left
of the whole cycle never grow, and a round that lets the engine and then the clock step takes
one. -/

namespace Sys2Proof.Machine

/-! ### The ticks a cycle has left -/

/-- The ticks after which the engine's next step leaves the state. -/
def phaseTicks (c : Config) : Phase → Nat
  | .startLow => c.tStartLow
  | .startHigh => c.tStartHigh
  | .respLow | .respHigh => c.tResp + 1
  | .bitLow | .bitHigh => c.tBit + 1
  | .idle | .done | .failed => 0

/-- The ticks of the states that a cycle still has before it after this one, at bit `i`. -/
def ticksAfter (c : Config) (i : Nat) : Phase → Nat
  | .startLow => c.tStartHigh + 2 * (c.tResp + 1) + 80 * (c.tBit + 1)
  | .startHigh => 2 * (c.tResp + 1) + 80 * (c.tBit + 1)
  | .respLow => c.tResp + 1 + 80 * (c.tBit + 1)
  | .respHigh => 80 * (c.tBit + 1)
  | .bitLow => (79 - 2 * i) * (c.tBit + 1)
  | .bitHigh => (78 - 2 * i) * (c.tBit + 1)
  | .idle | .done | .failed => 0

def State.ticksLeft (s : State) : Nat :=
  (phaseTicks s.cfg s.phase - s.tcount) + ticksAfter s.cfg s.bitidx.toNat s.phase

/-- The state's own ticks are not over. -/
def State.HasTime (s : State) : Prop := s.tcount < phaseTicks s.cfg s.phase

/-- A cycle that goes on under a running timer. -/
structure State.UnderWay (s : State) : Prop where
  wf : s.cfg.wf = true
  busy_eq : busy s = true
  trun_eq : s.trun = true
  bitidx_le : s.bitidx.toNat ≤ 39

/-- The cycle has ended and has an outcome. -/
def State.HasOutcome (s : State) : Prop := s.ended ∧ cycleResult s ≠ .noResult

theorem phaseTicks_le_tcountMax {c : Config} (h : c.wf = true) (p : Phase) :
    phaseTicks c p ≤ tcountMax c := by
  obtain ⟨-, -, -, -, hbounds, hholds, -⟩ := c.wf_iff.mp h
  unfold tcountMax
  cases p <;> simp only [phaseTicks] <;> omega

theorem hasTime_of_waits {s : State} (h : Waits s) : s.HasTime := by
  unfold State.HasTime
  rcases h with ⟨h, hE⟩ | ⟨h, hE⟩ | ⟨h, -, hE⟩ | ⟨h, -, hE⟩ | ⟨h, -, hE⟩ | ⟨h, -, hE⟩ <;>
    simp only [h, phaseTicks] <;> omega

/-! ### The engine's moves -/

/-- A move to a new busy state: it counts from 0, and its ticks were among those to come. -/
structure Advances (s u : State) : Prop where
  cfg_eq : u.cfg = s.cfg
  trun_eq : u.trun = s.trun
  sched_eq : u.sched = s.sched
  busy_eq : busy u = true
  tcount_eq : u.tcount = 0
  bitidx_le : u.bitidx.toNat ≤ 39
  ticks_le : phaseTicks u.cfg u.phase + ticksAfter u.cfg u.bitidx.toNat u.phase ≤
    ticksAfter s.cfg s.bitidx.toNat s.phase

/-- A move ends the cycle or goes on to the next state. -/
theorem Move.ends_or_advances {s u : State} (h : Move s (afterPin s) u)
    (hi : s.bitidx.toNat ≤ 39) : u.HasOutcome ∨ Advances s u := by
  cases h with
  | lastFall _ _ _ e =>
    have hdone : u.phase = .done := by rw [e]
    refine .inl ⟨.inl hdone, ?_⟩
    cases hc : checksumOk u.buf with
    | true => simp [cycleResult_done_good hdone hc]
    | false => simp [cycleResult_done_bad hdone hc]
  | noResponse _ _ e =>
    have hfailed : u.phase = .failed := by rw [e]
    refine .inl ⟨.inr hfailed, ?_⟩
    simp [cycleResult_failed_noResponse hfailed (by rw [e])]
  | timeout _ _ e =>
    have hfailed : u.phase = .failed := by rw [e]
    refine .inl ⟨.inr hfailed, ?_⟩
    simp [cycleResult_failed_timeout hfailed (by rw [e])]
  | holdLow h _ e | holdHigh h _ e | respRise h _ e | respFall h _ e =>
    subst e
    right
    constructor <;> simp [h, hi, busy, phaseTicks, ticksAfter] <;> omega
  | bitRise h _ e =>
    have hticks : 79 - 2 * s.bitidx.toNat = 78 - 2 * s.bitidx.toNat + 1 := by omega
    subst e
    right
    constructor <;> simp [h, hi, busy, phaseTicks, ticksAfter]
    rw [hticks, Nat.add_mul (78 - 2 * s.bitidx.toNat) 1]
    omega
  | bitFall h _ hlast e =>
    have hlt : s.bitidx.toNat < 39 := by bv_omega
    have hnext : (s.bitidx + 1).toNat = s.bitidx.toNat + 1 := toNat_bitidx_succ hlt
    have hticks : 78 - 2 * s.bitidx.toNat = 79 - 2 * (s.bitidx.toNat + 1) + 1 := by omega
    subst e
    right
    constructor <;> simp only [h, busy, phaseTicks, ticksAfter, hnext, afterPin_cfg, afterPin_trun,
      afterPin_sched]
    · exact hlt
    · rw [hticks, Nat.add_mul (79 - 2 * (s.bitidx.toNat + 1)) 1]
      omega

theorem Advances.underWay {s u : State} (h : Advances s u) (hs : s.UnderWay) : u.UnderWay :=
  ⟨h.cfg_eq ▸ hs.wf, h.busy_eq, h.trun_eq.trans hs.trun_eq, h.bitidx_le⟩

theorem phaseTicks_pos {s : State} (h : s.UnderWay) : 0 < phaseTicks s.cfg s.phase := by
  obtain ⟨hlow, hhigh⟩ := Config.holds_pos h.wf
  have hmem := busy_iff_mem.mp h.busy_eq
  cases hp : s.phase <;> simp [hp] at hmem <;> simp only [phaseTicks] <;> omega

theorem Advances.hasTime {s u : State} (h : Advances s u) (hs : s.UnderWay) : u.HasTime := by
  rw [State.HasTime, h.tcount_eq]
  exact phaseTicks_pos (h.underWay hs)

theorem Advances.ticksLeft_le {s u : State} (h : Advances s u) : u.ticksLeft ≤ s.ticksLeft := by
  have := h.ticks_le
  rw [State.ticksLeft, State.ticksLeft, h.tcount_eq]
  omega

/-! ### One step of a cycle under way -/

/-- The step `e` has kept the cycle under way and the schedule behind it. -/
structure KeepsOn (e : Event) (s t : State) : Prop where
  underWay : t.UnderWay
  sched_eq : t.sched = s.sched
  ticks_le : t.ticksLeft ≤ s.ticksLeft
  engine_hasTime : e = .engine → t.HasTime
  keeps_hasTime : e ≠ .clock → s.HasTime → t.HasTime
  clock_ticks_lt : e = .clock → s.HasTime → t.ticksLeft < s.ticksLeft

/-- A step that writes nothing the budget depends on; an engine's step of this kind is a wait. -/
theorem keepsOn_of_eq {e : Event} {s t : State} (hs : s.UnderWay) (hcfg : t.cfg = s.cfg)
    (hphase : t.phase = s.phase) (hcount : t.tcount = s.tcount) (hrun : t.trun = s.trun)
    (hidx : t.bitidx = s.bitidx) (hsched : t.sched = s.sched) (he : e ≠ .clock)
    (hengine : e = .engine → s.HasTime) : KeepsOn e s t where
  underWay := ⟨hcfg ▸ hs.wf, by rw [busy, hphase]; exact hs.busy_eq, hrun.trans hs.trun_eq,
    hidx ▸ hs.bitidx_le⟩
  sched_eq := hsched
  ticks_le := by rw [State.ticksLeft, State.ticksLeft, hcfg, hphase, hcount, hidx]
  engine_hasTime h := by rw [State.HasTime, hcfg, hphase, hcount]; exact hengine h
  keeps_hasTime _ h := by rw [State.HasTime, hcfg, hphase, hcount]; exact h
  clock_ticks_lt h := absurd h he

theorem keepsOn_clockStep {s : State} (hs : s.UnderWay) : KeepsOn .clock s (clockStep s) := by
  have hmax := phaseTicks_le_tcountMax hs.wf s.phase
  have hcount : (clockStep s).tcount = min (s.tcount + 1) (tcountMax s.cfg) := by
    rw [clockStep_tcount, if_pos hs.trun_eq]
  refine ⟨⟨by simpa using hs.wf, ?_, by simpa using hs.trun_eq, by simpa using hs.bitidx_le⟩,
    clockStep_sched s, ?le, nofun, fun h => absurd rfl h, fun _ h => ?lt⟩
  · rw [busy, clockStep_phase]; exact hs.busy_eq
  case le =>
    simp only [State.ticksLeft, hcount, clockStep_cfg, clockStep_phase, clockStep_bitidx]
    omega
  case lt =>
    rw [State.HasTime] at h
    simp only [State.ticksLeft, hcount, clockStep_cfg, clockStep_phase, clockStep_bitidx]
    omega

/-- Every step but a reset ends the cycle with an outcome or keeps it under way. -/
theorem runEvent_of_underWay {e : Event} {s t : State} (hs : s.UnderWay) (he : e ≠ .reset)
    (h : runEvent e s = .next t) : t.HasOutcome ∨ KeepsOn e s t := by
  cases e with
  | host w =>
    right
    rcases runEvent_host_busy_cases hs.busy_eq h with ⟨c, rfl⟩ | ⟨r, rfl⟩
    · exact keepsOn_of_eq hs rfl rfl rfl rfl rfl rfl nofun nofun
    · exact keepsOn_of_eq hs rfl rfl rfl rfl rfl rfl nofun nofun
  | engine =>
    cases h
    rcases engineStep_cases s with ⟨hb, -⟩ | ⟨-, hwaits, hstep⟩ | ⟨-, hmove⟩
    · exact absurd hs.busy_eq (by simp [hb])
    · rw [hstep]
      exact .inr (keepsOn_of_eq hs (afterPin_cfg s) (afterPin_phase s) (afterPin_tcount s)
        (afterPin_trun s) (afterPin_bitidx s) (afterPin_sched s) nofun
        fun _ => hasTime_of_waits hwaits)
    · refine (hmove.ends_or_advances hs.bitidx_le).imp_right fun hadv => ?_
      exact ⟨hadv.underWay hs, hadv.sched_eq, hadv.ticksLeft_le, fun _ => hadv.hasTime hs,
        fun _ _ => hadv.hasTime hs, nofun⟩
  | clock => cases h; exact .inr (keepsOn_clockStep hs)
  | sensor l =>
    cases h
    exact .inr (keepsOn_of_eq hs (sensorStep_cfg l s) (sensorStep_phase l s)
      (sensorStep_tcount l s) (sensorStep_trun l s) (sensorStep_bitidx l s)
      (sensorStep_sched l s) nofun nofun)
  | reset => exact absurd rfl he

theorem step_of_underWay {e : Event} {es : List Event} {s : State} (hs : s.UnderWay)
    (he : e ≠ .reset) (hsched : s.sched = e :: es) :
    ∃ t, step s = .next t ∧ (t.HasOutcome ∨ KeepsOn e { s with sched := es } t) := by
  obtain ⟨t, ht⟩ := step_has_next_of_wf hs.wf
  have hs' : State.UnderWay { s with sched := es } :=
    ⟨hs.wf, hs.busy_eq, hs.trun_eq, hs.bitidx_le⟩
  exact ⟨t, ht, runEvent_of_underWay hs' he ((step_cons hs.wf hsched).symm.trans ht)⟩

/-! ### A stretch of schedule, a round, a cycle -/

/-- Within `k` steps the cycle has ended with an outcome. -/
def State.Finishes (s : State) (k : Nat) : Prop :=
  ∃ j u, j ≤ k ∧ Host.Core.run Sys2Proof.core j s = .next u ∧ u.HasOutcome

theorem State.Finishes.mono {s : State} {j k : Nat} (h : s.Finishes j) (hjk : j ≤ k) :
    s.Finishes k := by
  obtain ⟨i, u, hi, hrun, hu⟩ := h
  exact ⟨i, u, hi.trans hjk, hrun, hu⟩

theorem State.Finishes.after {a k : Nat} {s t : State}
    (hrun : Host.Core.run Sys2Proof.core a s = .next t) (h : t.Finishes k) :
    s.Finishes (a + k) := by
  obtain ⟨i, u, hi, hu, houtcome⟩ := h
  exact ⟨a + i, u, by omega, (core_run_add hrun i).trans hu, houtcome⟩

/-- After `k` steps the cycle is still under way, with the schedule `rest` and no more ticks left
than before. -/
structure StillOn (s t : State) (k : Nat) (rest : List Event) : Prop where
  run_eq : Host.Core.run Sys2Proof.core k s = .next t
  underWay : t.UnderWay
  sched_eq : t.sched = rest
  ticks_le : t.ticksLeft ≤ s.ticksLeft

/-- Along a stretch without a reset the cycle ends or gains no ticks; with time at the start and a
clock turn in the stretch, it loses one. -/
theorem finishes_or_stillOn {s : State} {es rest : List Event} (hs : s.UnderWay)
    (hreset : .reset ∉ es) (hsched : s.sched = es ++ rest) :
    s.Finishes es.length ∨ ∃ t, StillOn s t es.length rest ∧
      (s.HasTime → .clock ∈ es → t.ticksLeft < s.ticksLeft) := by
  induction es generalizing s with
  | nil => exact .inr ⟨s, ⟨rfl, hs, hsched, le_rfl⟩, fun _ => nofun⟩
  | cons e es ih =>
    rw [List.mem_cons, not_or] at hreset
    obtain ⟨he, hes⟩ := hreset
    obtain ⟨t, hstep, houtcome | hkeeps⟩ := step_of_underWay hs (Ne.symm he) hsched
    · exact .inl ⟨1, t, by simp, (core_run_succ_next hstep 0).trans rfl, houtcome⟩
    · have hone : Host.Core.run Sys2Proof.core 1 s = .next t := core_run_succ_next hstep 0
      have hle : t.ticksLeft ≤ s.ticksLeft := hkeeps.ticks_le
      rw [List.length_cons, Nat.add_comm]
      refine (ih hkeeps.underWay hes hkeeps.sched_eq).imp (.after hone) ?_
      rintro ⟨u, ⟨hrun, hu, hrest, hticks⟩, hlt⟩
      refine ⟨u, ⟨(core_run_add hone _).trans hrun, hu, hrest, hticks.trans hle⟩,
        fun htime hmem => ?_⟩
      by_cases hclock : e = .clock
      · exact hticks.trans_lt (hkeeps.clock_ticks_lt hclock htime)
      · have hmem' : .clock ∈ es := (List.mem_cons.mp hmem).resolve_left (Ne.symm hclock)
        exact (hlt (hkeeps.keeps_hasTime hclock htime) hmem').trans_le hle

/-- A fair round ends the cycle or takes a tick: after the engine's step the state has time, and the
clock's step comes later. -/
theorem finishes_or_tick_of_fairRound {s : State} {r rest : List Event} (hs : s.UnderWay)
    (hr : fairRound r) (hsched : s.sched = r ++ rest) :
    s.Finishes r.length ∨ ∃ t, StillOn s t r.length rest ∧ t.ticksLeft < s.ticksLeft := by
  obtain ⟨hreset, a, b, c, rfl⟩ := hr
  simp only [List.mem_append, List.mem_cons, not_or] at hreset
  obtain ⟨ha, he, hb, hck, hc⟩ := hreset
  have hbc : .reset ∉ b ++ .clock :: c := by simp [hb, hc]
  simp only [List.append_assoc, List.cons_append] at hsched
  rcases finishes_or_stillOn hs ha hsched with hfin | ⟨t, ht, -⟩
  · exact .inl (hfin.mono (by simp))
  obtain ⟨u, hstep, houtcome | hkeeps⟩ :=
    step_of_underWay (e := .engine) ht.underWay nofun ht.sched_eq
  · have hone : Host.Core.run Sys2Proof.core 1 t = .next u := core_run_succ_next hstep 0
    exact .inl ((State.Finishes.after ht.run_eq ⟨1, u, le_rfl, hone, houtcome⟩).mono (by simp))
  have hu : Host.Core.run Sys2Proof.core (a.length + 1) s = .next u :=
    (core_run_add ht.run_eq 1).trans (core_run_succ_next hstep 0)
  have hlen : (a ++ .engine :: (b ++ .clock :: c)).length =
      a.length + 1 + (b ++ .clock :: c).length := by simp; omega
  rw [hlen]
  have hus : u.sched = (b ++ .clock :: c) ++ rest := by simpa using hkeeps.sched_eq
  refine (finishes_or_stillOn hkeeps.underWay hbc hus).imp (.after hu) ?_
  rintro ⟨v, ⟨hrun, hv, hrest, hticks⟩, hlt⟩
  have htick : v.ticksLeft < u.ticksLeft := hlt (hkeeps.engine_hasTime rfl) (by simp)
  have hle : u.ticksLeft ≤ s.ticksLeft := hkeeps.ticks_le.trans ht.ticks_le
  exact ⟨v, ⟨(core_run_add hu _).trans hrun, hv, hrest, hticks.trans hle⟩, htick.trans_le hle⟩

/-- More fair rounds than ticks are left end the cycle. -/
theorem finishes_of_fairRounds {s : State} {rounds : List (List Event)} (hs : s.UnderWay)
    (hfair : ∀ r ∈ rounds, fairRound r) (hsched : s.sched = rounds.flatten)
    (hlen : s.ticksLeft < rounds.length) : s.Finishes rounds.flatten.length := by
  induction rounds generalizing s with
  | nil => cases hlen
  | cons r rounds ih =>
    rw [List.flatten_cons] at hsched ⊢
    rw [List.length_append]
    rcases finishes_or_tick_of_fairRound hs (hfair r List.mem_cons_self) hsched with
      hfin | ⟨t, ht, htick⟩
    · exact hfin.mono (Nat.le_add_right _ _)
    · refine .after ht.run_eq (ih ht.underWay (fun r hr => hfair r (List.mem_cons_of_mem _ hr))
        ht.sched_eq ?_)
      rw [List.length_cons] at hlen
      omega

/-- Settles O42: START leaves the cycle as many ticks as the bound. -/
theorem cycleEndsWithinItsBound : Obligations.CycleEndsWithinItsBound := by
  intro s t rounds hw hr hb hstart hfair hlen
  cases (exec_start_idle hb).symm.trans hstart
  have hunderWay : State.UnderWay { silent (beginCycle s) with sched := rounds.flatten } :=
    ⟨hw, rfl, hr, by simp⟩
  have hticks : State.ticksLeft { silent (beginCycle s) with sched := rounds.flatten } =
      cycleBound s.cfg := by
    simp only [State.ticksLeft, silent, beginCycle, phaseTicks, ticksAfter, cycleBound]
    omega
  obtain ⟨k, u, hk, hrun, hended, hresult⟩ :=
    finishes_of_fairRounds hunderWay hfair rfl (hticks ▸ hlen)
  exact ⟨k, u, hk, hrun, hended, hresult⟩

end Sys2Proof.Machine

/-! ## A frame under the lockstep schedule (42_bitframe.md R190 to R193; 95_test_vectors.md, 0)

An instant is one sample of the sensor's level and then one tick, so a run of samples is counted in
TCOUNT: the first sample of a run makes the engine move and the others make it wait. -/

namespace Sys2Proof.Machine

/-! ### Samples and ticks -/

/-- Some number of steps leads from `s` to `t`. -/
def Reaches (s t : State) : Prop := ∃ k, Host.Core.run Sys2Proof.core k s = .next t

theorem Reaches.refl (s : State) : Reaches s s := ⟨0, rfl⟩

theorem Reaches.trans {s t u : State} (h : Reaches s t) (h' : Reaches t u) : Reaches s u := by
  obtain ⟨a, ha⟩ := h
  obtain ⟨b, hb⟩ := h'
  exact ⟨a + b, (core_run_add ha b).trans hb⟩

theorem reaches_of_step {s t : State} (h : step s = .next t) : Reaches s t :=
  ⟨1, core_run_succ_next h 0⟩

/-- `s` at one spot of a frame: STATE, TCOUNT, BITIDX and B, beside the sensor's level and the
schedule. -/
def State.spot (s : State) (p : Phase) (n : Nat) (i : BitVec 6) (B : Buffer) (d : Option Level)
    (es : List Event) : State :=
  { s with phase := p, tcount := n, bitidx := i, buf := B, drive := d, sched := es }

/-- The line is released to the sensor and the timer runs. -/
structure State.Listens (s : State) : Prop where
  wf : s.cfg.wf = true
  mode_eq : s.mode = .input
  trun_eq : s.trun = true

section

variable {s : State} {p q : Phase} {n m : Nat} {i j : BitVec 6} {B B' : Buffer}
  {d : Option Level} {l : Level} {ls : List Level} {es : List Event}

theorem pin_spot (hs : s.Listens) : pin (s.spot p n i B (some l) es) = l :=
  pin_input_set hs.mode_eq rfl

theorem afterPin_spot (hs : s.Listens) :
    afterPin (s.spot p n i B (some l) es) = s.spot p n i B none es :=
  afterPin_input_set hs.mode_eq rfl

theorem step_spot (hs : s.Listens) (e : Event) :
    step (s.spot p n i B d (e :: es)) = runEvent e (s.spot p n i B d es) :=
  step_cons (s := s.spot p n i B d (e :: es)) hs.wf rfl

/-- The sensor sets a level and the engine samples it. -/
theorem reaches_sample (hs : s.Listens) :
    Reaches (s.spot p n i B d (.sensor l :: .engine :: es))
      (engineStep (s.spot p n i B (some l) es)) := by
  have hsensor : sensorStep l (s.spot p n i B d (.engine :: es)) =
      s.spot p n i B (some l) (.engine :: es) :=
    sensorStep_input (s := s.spot p n i B d (.engine :: es)) hs.mode_eq l
  exact (reaches_of_step ((step_spot hs _).trans (congrArg _ hsensor))).trans
    (reaches_of_step (step_spot hs _))

theorem reaches_tick (hs : s.Listens) (hn : n < tcountMax s.cfg) :
    Reaches (s.spot p n i B d (.clock :: es)) (s.spot p (n + 1) i B d es) := by
  have htick : clockStep (s.spot p n i B d es) = s.spot p (n + 1) i B d es := by
    have hmin : min (n + 1) (tcountMax s.cfg) = n + 1 := min_eq_left hn
    rw [clockStep_running (s := s.spot p n i B d es) hs.trun_eq]
    simp only [State.spot, hmin]
  exact reaches_of_step ((step_spot hs _).trans (congrArg _ htick))

/-- An instant: the engine's step on the level, whatever is scheduled behind it, and a tick. -/
theorem reaches_instant (hs : s.Listens) (hm : m < tcountMax s.cfg)
    (hengine : ∀ es, engineStep (s.spot p n i B (some l) es) = s.spot q m j B' none es) :
    Reaches (s.spot p n i B d (lockstep (l :: ls) ++ es))
      (s.spot q (m + 1) j B' none (lockstep ls ++ es)) := by
  have hsample := reaches_sample (p := p) (n := n) (i := i) (B := B) (d := d) (l := l)
    (es := .clock :: (lockstep ls ++ es)) hs
  rw [hengine] at hsample
  exact hsample.trans (reaches_tick hs hm)

/-! ### The engine on one sample -/

/-- The level that a wait state waits through. -/
def waitedLevel : Phase → Option Level
  | .respLow | .bitLow => some .low
  | .respHigh | .bitHigh => some .high
  | _ => none

theorem waits_of_waitedLevel {s : State} (hl : waitedLevel s.phase = some (pin s))
    (ht : s.HasTime) : Waits s := by
  unfold State.HasTime at ht
  cases hp : s.phase <;> simp only [hp, waitedLevel, phaseTicks] at hl ht
  case respLow =>
    exact .inr (.inr (.inl ⟨hp, (Option.some.inj hl).symm, by omega⟩))
  case respHigh =>
    exact .inr (.inr (.inr (.inl ⟨hp, (Option.some.inj hl).symm, by omega⟩)))
  case bitLow =>
    exact .inr (.inr (.inr (.inr (.inl ⟨hp, (Option.some.inj hl).symm, by omega⟩))))
  case bitHigh =>
    exact .inr (.inr (.inr (.inr (.inr ⟨hp, (Option.some.inj hl).symm, by omega⟩))))
  all_goals cases hl

theorem engineStep_of_waits {s : State} (h : Waits s) : engineStep s = afterPin s :=
  Host.Outcome.next.inj (runEvent_engine_of_waits h)

theorem engineStep_of_move {s u : State} (h : Move s (afterPin s) u) : engineStep s = u :=
  Host.Outcome.next.inj (runEvent_engine_of_move h)

theorem engineStep_spot_wait (hs : s.Listens) (hl : waitedLevel p = some l)
    (hn : n < phaseTicks s.cfg p) (es : List Event) :
    engineStep (s.spot p n i B (some l) es) = s.spot p n i B none es := by
  have hwaits : Waits (s.spot p n i B (some l) es) :=
    waits_of_waitedLevel (hl.trans (congrArg some (pin_spot hs).symm)) hn
  rw [engineStep_of_waits hwaits, afterPin_spot hs]

/-- A move on a sample of the line, written over the state after the sample. -/
theorem engineStep_spot_move {u : State} (hs : s.Listens)
    (h : Move (s.spot p n i B (some l) es) (s.spot p n i B none es) u) :
    engineStep (s.spot p n i B (some l) es) = u :=
  engineStep_of_move ((afterPin_spot hs).symm ▸ h)

/-! ### Runs of samples -/

/-- A run of the level a state waits through is counted, within its bound. -/
theorem reaches_wait (hs : s.Listens) (hl : waitedLevel p = some l) (k : Nat)
    (hk : n + k ≤ phaseTicks s.cfg p) :
    ∃ d', Reaches (s.spot p n i B d (lockstep (List.replicate k l ++ ls) ++ es))
      (s.spot p (n + k) i B d' (lockstep ls ++ es)) := by
  induction k generalizing n d with
  | zero => exact ⟨d, .refl _⟩
  | succ k ih =>
    have hmax := phaseTicks_le_tcountMax hs.wf p
    have hinstant := reaches_instant (d := d) (m := n) (ls := List.replicate k l ++ ls) (es := es)
      hs (by omega) (engineStep_spot_wait (i := i) (B := B) hs hl (by omega))
    obtain ⟨d', hrest⟩ := ih (n := n + 1) (d := none) (by omega)
    rw [Nat.add_right_comm] at hrest
    exact ⟨d', hinstant.trans hrest⟩

/-- A run of the level that makes the engine move to `q`: the move's tick is the first of its
count. -/
theorem reaches_run (hs : s.Listens)
    (hmove : ∀ es, engineStep (s.spot p n i B (some l) es) = s.spot q 0 j B' none es)
    (hl : waitedLevel q = some l) {k : Nat} (hk : 1 ≤ k) (hk' : k ≤ phaseTicks s.cfg q) :
    ∃ d', Reaches (s.spot p n i B d (lockstep (List.replicate k l ++ ls) ++ es))
      (s.spot q k j B' d' (lockstep ls ++ es)) := by
  obtain ⟨k, rfl⟩ : ∃ k', k = k' + 1 := ⟨k - 1, by omega⟩
  have hmax := phaseTicks_le_tcountMax hs.wf q
  have hinstant := reaches_instant (d := d) (ls := List.replicate k l ++ ls) (es := es) hs
    (by omega) hmove
  obtain ⟨d', hrest⟩ := reaches_wait (n := 1) (i := j) (B := B') (d := none) (ls := ls) (es := es)
    hs hl k (by omega)
  rw [Nat.add_comm] at hrest
  exact ⟨d', hinstant.trans hrest⟩

/-! ### Bits -/

/-- The runs of a bit stay within T_BIT's bound. -/
def BitInBounds (c : Config) (b : Nat × Nat) : Prop :=
  1 ≤ b.1 ∧ b.1 ≤ c.tBit + 1 ∧ 1 ≤ b.2 ∧ b.2 ≤ c.tBit + 1

/-- From the sample that enters BitLow, a bit's low run and then its high run, which is counted. -/
theorem reaches_bit (hs : s.Listens)
    (hmove : ∀ es, engineStep (s.spot p n i B (some .low) es) = s.spot .bitLow 0 j B' none es)
    {b : Nat × Nat} (hb : BitInBounds s.cfg b) (bits : List (Nat × Nat)) :
    ∃ d', Reaches (s.spot p n i B d (lockstep (bitScript (b :: bits) ++ ls) ++ es))
      (s.spot .bitHigh b.2 j B' d' (lockstep (bitScript bits ++ ls) ++ es)) := by
  obtain ⟨lo, hi⟩ := b
  obtain ⟨hlo, hlo', hhi, hhi'⟩ := hb
  have hrise : ∀ es, engineStep (s.spot .bitLow lo j B' (some .high) es) =
      s.spot .bitHigh 0 j B' none es :=
    fun _ => engineStep_spot_move hs (.bitRise rfl (pin_spot hs) rfl)
  obtain ⟨d₁, hlow⟩ := reaches_run (d := d)
    (ls := List.replicate hi Level.high ++ (bitScript bits ++ ls)) (es := es) hs hmove rfl hlo hlo'
  obtain ⟨d₂, hhigh⟩ := reaches_run (d := d₁) (ls := bitScript bits ++ ls) (es := es)
    hs hrise rfl hhi hhi'
  have hscript : bitScript ((lo, hi) :: bits) ++ ls =
      List.replicate lo Level.low ++ (List.replicate hi Level.high ++ (bitScript bits ++ ls)) := by
    simp only [bitScript, List.append_assoc]
  rw [hscript]
  exact ⟨d₂, hlow.trans hhigh⟩

/-- `B'` holds the bits decoded from the widths `ws` from index `i` on, and the bits of `B` before
it. -/
def DecodedFrom (c : Config) (i : Nat) (ws : List Nat) (B B' : Buffer) : Prop :=
  (∀ k < i, B'.streamBit k = B.streamBit k) ∧
  ∀ k w, ws[k]? = some w → B'.streamBit (i + k) = decodeBit c w

theorem decodedFrom_last (c : Config) {i : Nat} (hi : i < 40) (w : Nat) (B : Buffer) :
    DecodedFrom c i [w] B (pack B i (decodeBit c w)) := by
  refine ⟨fun k hk => ?_, fun k v hv => ?_⟩
  · rw [streamBit_pack B hi, if_neg (by omega)]
  · obtain ⟨rfl, rfl⟩ : k = 0 ∧ w = v := by
      cases k with
      | zero => exact ⟨rfl, Option.some.inj hv⟩
      | succ k => simp at hv
    exact (streamBit_pack B hi _ i).trans (if_pos rfl)

theorem DecodedFrom.cons {c : Config} {i : Nat} (hi : i < 40) {w : Nat} {ws : List Nat}
    {B B' : Buffer} (h : DecodedFrom c (i + 1) ws (pack B i (decodeBit c w)) B') :
    DecodedFrom c i (w :: ws) B B' := by
  obtain ⟨hbefore, hfrom⟩ := h
  refine ⟨fun k hk => ?_, fun k v hv => ?_⟩
  · rw [hbefore k (by omega), streamBit_pack B hi, if_neg (by omega)]
  · cases k with
    | zero =>
      cases hv
      rw [Nat.add_zero, hbefore i (by omega), streamBit_pack B hi, if_pos rfl]
    | succ k =>
      rw [← hfrom k v hv]
      congr 1
      omega

/-- From the high run of bit BITIDX, its width counted, the bits that follow and the last low
sample: the frame is decoded and the cycle done. -/
theorem reaches_done (hs : s.Listens) {bits : List (Nat × Nat)}
    (hbits : ∀ b ∈ bits, BitInBounds s.cfg b) (hi : i.toNat + bits.length = 39) :
    ∃ u, Reaches (s.spot .bitHigh n i B d (lockstep (bitScript bits ++ [Level.low]) ++ es)) u ∧
      u.phase = .done ∧ u.sched = .clock :: es ∧
      DecodedFrom s.cfg i.toNat (n :: bits.map Prod.snd) B u.buf := by
  induction bits generalizing n i B d with
  | nil =>
    have hlast : i = 39 := BitVec.eq_of_toNat_eq hi
    have hfall : engineStep (s.spot .bitHigh n i B (some .low) (.clock :: es)) =
        s.spot .done n i (pack B i.toNat (decodeBit s.cfg n)) none (.clock :: es) :=
      engineStep_spot_move hs (.lastFall rfl (pin_spot hs) hlast rfl)
    have hsample := reaches_sample (p := .bitHigh) (n := n) (i := i) (B := B) (d := d) (l := .low)
      (es := .clock :: es) hs
    rw [hfall] at hsample
    have hlt : i.toNat < 40 := by rw [hlast]; decide
    exact ⟨_, hsample, rfl, rfl, decodedFrom_last s.cfg hlt n B⟩
  | cons b bits ih =>
    rw [List.length_cons] at hi
    have hnext : (i + 1).toNat = i.toNat + 1 := toNat_bitidx_succ (by omega)
    have hfall : ∀ es, engineStep (s.spot .bitHigh n i B (some .low) es) =
        s.spot .bitLow 0 (i + 1) (pack B i.toNat (decodeBit s.cfg n)) none es := fun _ =>
      engineStep_spot_move hs (.bitFall rfl (pin_spot hs) (fun h39 => by subst h39; simp at hi) rfl)
    obtain ⟨d₁, hbit⟩ := reaches_bit (d := d) (ls := [Level.low]) (es := es) hs hfall
      (hbits b List.mem_cons_self) bits
    obtain ⟨u, hu, hdone, hsched, hdecoded⟩ :=
      ih (n := b.2) (i := i + 1) (B := pack B i.toNat (decodeBit s.cfg n)) (d := d₁)
        (fun b' hb' => hbits b' (List.mem_cons_of_mem _ hb')) (by omega)
    rw [hnext] at hdecoded
    exact ⟨u, hbit.trans hu, hdone, hsched, .cons (by omega) hdecoded⟩

end

/-- Settles O46: the response's two runs lead to the first bit, whose entry sets BITIDX to 0, and
the bits are decoded one after the other. -/
theorem lockstepFrameIsDecoded : Obligations.LockstepFrameIsDecoded := by
  intro s respLow respHigh bits rest hw hphase hmode hrun hlow hhigh hhigh' hlen hbits hsched
  have hs : s.Listens := ⟨hw, hmode, hrun⟩
  obtain ⟨b, bits, rfl⟩ := List.exists_cons_of_length_eq_add_one hlen
  have hstart : s = s.spot .respLow s.tcount s.bitidx s.buf s.drive
      (lockstep (List.replicate respLow Level.low ++ (List.replicate respHigh Level.high ++
        (bitScript (b :: bits) ++ [Level.low]))) ++ rest) := by
    rw [State.spot, ← hphase, ← List.append_assoc, ← List.append_assoc]
    exact hsched ▸ rfl
  have hrise : ∀ es,
      engineStep (s.spot .respLow (s.tcount + respLow) s.bitidx s.buf (some .high) es) =
        s.spot .respHigh 0 s.bitidx s.buf none es :=
    fun _ => engineStep_spot_move hs (.respRise rfl (pin_spot hs) rfl)
  have hfall : ∀ es, engineStep (s.spot .respHigh respHigh s.bitidx s.buf (some .low) es) =
      s.spot .bitLow 0 0 s.buf none es :=
    fun _ => engineStep_spot_move hs (.respFall rfl (pin_spot hs) rfl)
  obtain ⟨d₁, h₁⟩ := reaches_wait (p := .respLow) (n := s.tcount) (i := s.bitidx) (B := s.buf)
    (d := s.drive)
    (ls := List.replicate respHigh Level.high ++ (bitScript (b :: bits) ++ [Level.low]))
    (es := rest) hs rfl respLow hlow
  obtain ⟨d₂, h₂⟩ := reaches_run (d := d₁) (ls := bitScript (b :: bits) ++ [Level.low]) (es := rest)
    hs hrise rfl hhigh hhigh'
  obtain ⟨d₃, h₃⟩ := reaches_bit (d := d₂) (ls := [Level.low]) (es := rest) hs hfall
    (hbits b List.mem_cons_self) bits
  obtain ⟨u, h₄, hdone, husched, -, hdecoded⟩ := reaches_done (n := b.2) (i := 0) (B := s.buf)
    (d := d₃) (es := rest) hs (fun b' hb' => hbits b' (List.mem_cons_of_mem _ hb'))
    (by simpa using hlen)
  have hreaches := h₁.trans (h₂.trans (h₃.trans h₄))
  rw [← hstart] at hreaches
  obtain ⟨k, hk⟩ := hreaches
  refine ⟨k, u, hk, hdone, husched, fun i w hw => ?_⟩
  have hwidth : ((b :: bits).map Prod.snd)[i]? = some w.2 := by rw [List.getElem?_map, hw]; rfl
  simpa [decodeBit] using hdecoded i w.2 hwidth

end Sys2Proof.Machine
